-- ==== Sys2Proof/Word.lean ====
section
/-! DEFINITION. The widths of the core's data: bytes, 64-bit host words and limbs, 384-bit slot words and 8-bit slot
numbers (00_scope.md R8, R14; 10_state.md R20; 30_encoding.md R90). -/

namespace Sys2Proof

/-- One byte lane of the host bus (20_memory.md R61). -/
abbrev Byte := BitVec 8

/-- A 64-bit host register, limb, command word or entropy word (10_state.md R30; 00_scope.md R8). -/
abbrev Word := BitVec 64

/-- The 384-bit content of one slot, six limbs, limb 0 least significant (10_state.md R20). -/
abbrev SlotWord := BitVec 384

/-- A slot number as a command field holds it: 0 to 255 (30_encoding.md R90, R91). -/
abbrev SlotNo := BitVec 8

/-- An 8-bit immediate field (30_encoding.md R90, R95). -/
abbrev Imm := BitVec 8

end Sys2Proof
end

