-- ==== Sys2Proof/Syntax.lean ====
section
/-! DEFINITION. The command set as syntax: one constructor for each of the 84 commands of 30_encoding.md R101, with the fields
the command uses (slot numbers D, A, B and the immediate IMM), and the operand kinds of R93. -/

namespace Sys2Proof

/-- The operand kinds of 30_encoding.md R93: what a slot field of a command names. -/
inductive Kind where
  | fq | fr | fq2 | fq6 | fq12
  | g1 | g2 | af1 | af2
  | u | s2 | s4
  | sp6 | sp12 | la | ld
  /-- EXP: an exponent of IMM limbs (10_state.md R29). -/
  | exp
  /-- N: a run of IMM + 1 raw slots. -/
  | run
  /-- CONST: the ROM constant numbered IMM (40_control.md R131). -/
  | const
  deriving DecidableEq, Repr

/-- The fields of a command word that a command may use (30_encoding.md R90). -/
inductive Field where
  | d | a | b | imm
  deriving DecidableEq, Repr

/-- The commands of the core (30_encoding.md R101). `d`, `a` and `b` are the first slots of the operands, `imm` is IMM. -/
inductive Instr where
  -- Control (OP[7:4] = 0x0, 40_control.md)
  /-- NOP, OP = 0x00 (R130). -/
  | nop
  /-- LDC, OP = 0x01 (R132). -/
  | ldc (d : SlotNo) (imm : Imm)
  /-- MOV, OP = 0x02 (R133). -/
  | mov (d a : SlotNo) (imm : Imm)
  /-- CLR, OP = 0x03 (R134). -/
  | clr (d : SlotNo) (imm : Imm)
  -- Fq field (OP[7:4] = 0x1, 41_field_fq_fr.md)
  /-- FQ.ADD, OP = 0x10 (R145). -/
  | fqAdd (d a b : SlotNo)
  /-- FQ.SUB, OP = 0x11 (R146). -/
  | fqSub (d a b : SlotNo)
  /-- FQ.NEG, OP = 0x12 (R147). -/
  | fqNeg (d a : SlotNo)
  /-- FQ.MUL, OP = 0x13 (R148). -/
  | fqMul (d a b : SlotNo)
  /-- FQ.SQR, OP = 0x14 (R149). -/
  | fqSqr (d a : SlotNo)
  /-- FQ.EXP, OP = 0x15 (R150). -/
  | fqExp (d a b : SlotNo) (imm : Imm)
  /-- FQ.INV, OP = 0x16 (R151). -/
  | fqInv (d a : SlotNo)
  /-- FQ.FROMINT, OP = 0x17 (R152). -/
  | fqFromint (d a : SlotNo)
  /-- FQ.TOINT, OP = 0x18 (R153). -/
  | fqToint (d a : SlotNo)
  /-- FQ.EQ, OP = 0x19 (R154). -/
  | fqEq (a b : SlotNo)
  /-- FQ.RAND, OP = 0x1A (R155). -/
  | fqRand (d : SlotNo)
  -- Fr field (OP[7:4] = 0x2, 41_field_fq_fr.md)
  /-- FR.ADD, OP = 0x20 (R158). -/
  | frAdd (d a b : SlotNo)
  /-- FR.SUB, OP = 0x21 (R159). -/
  | frSub (d a b : SlotNo)
  /-- FR.NEG, OP = 0x22 (R160). -/
  | frNeg (d a : SlotNo)
  /-- FR.MUL, OP = 0x23 (R161). -/
  | frMul (d a b : SlotNo)
  /-- FR.SQR, OP = 0x24 (R162). -/
  | frSqr (d a : SlotNo)
  /-- FR.EXP, OP = 0x25 (R163). -/
  | frExp (d a b : SlotNo) (imm : Imm)
  /-- FR.INV, OP = 0x26 (R164). -/
  | frInv (d a : SlotNo)
  /-- FR.FROMINT, OP = 0x27 (R165). -/
  | frFromint (d a : SlotNo)
  /-- FR.TOINT, OP = 0x28 (R166). -/
  | frToint (d a : SlotNo)
  /-- FR.EQ, OP = 0x29 (R167). -/
  | frEq (a b : SlotNo)
  /-- FR.RAND, OP = 0x2A (R168). -/
  | frRand (d : SlotNo)
  -- Fq2 (OP[7:4] = 0x3, 42_tower.md)
  /-- FQ2.ADD, OP = 0x30 (R190). -/
  | fq2Add (d a b : SlotNo)
  /-- FQ2.SUB, OP = 0x31 (R191). -/
  | fq2Sub (d a b : SlotNo)
  /-- FQ2.NEG, OP = 0x32 (R192). -/
  | fq2Neg (d a : SlotNo)
  /-- FQ2.MUL, OP = 0x33 (R193). -/
  | fq2Mul (d a b : SlotNo)
  /-- FQ2.SQR, OP = 0x34 (R194). -/
  | fq2Sqr (d a : SlotNo)
  /-- FQ2.INV, OP = 0x35 (R195). -/
  | fq2Inv (d a : SlotNo)
  /-- FQ2.CONJ, OP = 0x36 (R196). -/
  | fq2Conj (d a : SlotNo)
  /-- FQ2.MULXI, OP = 0x37 (R197). -/
  | fq2Mulxi (d a : SlotNo)
  /-- FQ2.FROB, OP = 0x38 (R198). -/
  | fq2Frob (d a : SlotNo) (imm : Imm)
  /-- FQ2.EQ, OP = 0x39 (R199). -/
  | fq2Eq (a b : SlotNo)
  -- Fq6 (OP[7:4] = 0x4, 42_tower.md)
  /-- FQ6.ADD, OP = 0x40 (R200). -/
  | fq6Add (d a b : SlotNo)
  /-- FQ6.SUB, OP = 0x41 (R201). -/
  | fq6Sub (d a b : SlotNo)
  /-- FQ6.NEG, OP = 0x42 (R202). -/
  | fq6Neg (d a : SlotNo)
  /-- FQ6.MUL, OP = 0x43 (R203). -/
  | fq6Mul (d a b : SlotNo)
  /-- FQ6.SQR, OP = 0x44 (R204). -/
  | fq6Sqr (d a : SlotNo)
  /-- FQ6.INV, OP = 0x45 (R205). -/
  | fq6Inv (d a : SlotNo)
  /-- FQ6.MULNR, OP = 0x46 (R206). -/
  | fq6Mulnr (d a : SlotNo)
  /-- FQ6.SPMUL01, OP = 0x47 (R207). -/
  | fq6Spmul01 (d a b : SlotNo)
  /-- FQ6.FROB, OP = 0x48 (R208). -/
  | fq6Frob (d a : SlotNo) (imm : Imm)
  /-- FQ6.EQ, OP = 0x49 (R209). -/
  | fq6Eq (a b : SlotNo)
  -- Fq12 (OP[7:4] = 0x5, 42_tower.md)
  /-- FQ12.ADD, OP = 0x50 (R210). -/
  | fq12Add (d a b : SlotNo)
  /-- FQ12.SUB, OP = 0x51 (R211). -/
  | fq12Sub (d a b : SlotNo)
  /-- FQ12.NEG, OP = 0x52 (R212). -/
  | fq12Neg (d a : SlotNo)
  /-- FQ12.MUL, OP = 0x53 (R213). -/
  | fq12Mul (d a b : SlotNo)
  /-- FQ12.SQR, OP = 0x54 (R214). -/
  | fq12Sqr (d a : SlotNo)
  /-- FQ12.INV, OP = 0x55 (R215). -/
  | fq12Inv (d a : SlotNo)
  /-- FQ12.CONJ, OP = 0x56 (R216). -/
  | fq12Conj (d a : SlotNo)
  /-- FQ12.SPMUL014, OP = 0x57 (R217). -/
  | fq12Spmul014 (d a b : SlotNo)
  /-- FQ12.FROB, OP = 0x58 (R218). -/
  | fq12Frob (d a : SlotNo) (imm : Imm)
  /-- FQ12.EQ, OP = 0x59 (R219). -/
  | fq12Eq (a b : SlotNo)
  /-- FQ12.EXP, OP = 0x5A (R220). -/
  | fq12Exp (d a b : SlotNo) (imm : Imm)
  -- G1 (OP[7:4] = 0x6, 43_groups.md)
  /-- G1.ADD, OP = 0x60 (R250). -/
  | g1Add (d a b : SlotNo)
  /-- G1.DBL, OP = 0x61 (R251). -/
  | g1Dbl (d a : SlotNo)
  /-- G1.NEG, OP = 0x62 (R252). -/
  | g1Neg (d a : SlotNo)
  /-- G1.SMUL, OP = 0x63 (R253). -/
  | g1Smul (d a b : SlotNo)
  /-- G1.SMULGLV, OP = 0x64 (R254). -/
  | g1Smulglv (d a b : SlotNo)
  /-- G1.TOAFF, OP = 0x65 (R255). -/
  | g1Toaff (d a : SlotNo)
  /-- G1.EQ, OP = 0x66 (R256). -/
  | g1Eq (a b : SlotNo)
  /-- G1.ENDO, OP = 0x67 (R257). -/
  | g1Endo (d a : SlotNo)
  /-- G1.FROMAFF, OP = 0x68 (R258). -/
  | g1Fromaff (d a : SlotNo)
  /-- G1.IDENT, OP = 0x69 (R259). -/
  | g1Ident (d : SlotNo)
  -- G2 (OP[7:4] = 0x7, 43_groups.md)
  /-- G2.ADD, OP = 0x70 (R260). -/
  | g2Add (d a b : SlotNo)
  /-- G2.DBL, OP = 0x71 (R261). -/
  | g2Dbl (d a : SlotNo)
  /-- G2.NEG, OP = 0x72 (R262). -/
  | g2Neg (d a : SlotNo)
  /-- G2.SMUL, OP = 0x73 (R263). -/
  | g2Smul (d a b : SlotNo)
  /-- G2.SMULGLS, OP = 0x74 (R264). -/
  | g2Smulgls (d a b : SlotNo)
  /-- G2.TOAFF, OP = 0x75 (R265). -/
  | g2Toaff (d a : SlotNo)
  /-- G2.EQ, OP = 0x76 (R266). -/
  | g2Eq (a b : SlotNo)
  /-- G2.PSI, OP = 0x77 (R267). -/
  | g2Psi (d a : SlotNo)
  /-- G2.FROMAFF, OP = 0x78 (R268). -/
  | g2Fromaff (d a : SlotNo)
  /-- G2.IDENT, OP = 0x79 (R269). -/
  | g2Ident (d : SlotNo)
  -- Pairing (OP[7:4] = 0x8, 45_pairing.md)
  /-- LINEDBL, OP = 0x80 (R303). -/
  | linedbl (d a b : SlotNo)
  /-- LINEADD, OP = 0x81 (R304). -/
  | lineadd (d a b : SlotNo)
  /-- MILLER, OP = 0x82 (R306). -/
  | miller (d a b : SlotNo)
  /-- FINEXP, OP = 0x83 (R308). -/
  | finexp (d a : SlotNo)
  /-- PAIR, OP = 0x84 (R309). -/
  | pair (d a b : SlotNo)
  -- Lattice decomposition (OP[7:4] = 0x9, 44_lattice.md)
  /-- LAT.DECOMP1, OP = 0x90 (R293). -/
  | latDecomp1 (d a : SlotNo)
  /-- LAT.DECOMP2, OP = 0x91 (R294). -/
  | latDecomp2 (d a : SlotNo)
  deriving DecidableEq, Repr

end Sys2Proof
end

