-- ==== Sys2Proof/Machine/Kinds.lean ====
section
/-! DEFINITION. How many slots an operand of each kind occupies, which operands each command has, and when an operand fits the
slot file (30_encoding.md R93 to R97, R101; 40_control.md R131). -/

namespace Sys2Proof

/-- The number of slots of LDC constant number `imm` (40_control.md R131, column "slots"); 0 for an index with no constant. -/
def constSize (imm : Imm) : Nat :=
  match imm.toNat with
  | 0 => 1
  | 1 => 1
  | 2 => 12
  | 3 => 3
  | 4 => 8
  | 5 => 3
  | 6 => 8
  | 7 => 1
  | 8 => 1
  | 9 => 1
  | 10 => 1
  | 11 => 2
  | 12 => 2
  | 13 => 2
  | _ => 0

/-- The number of slots an operand of a kind occupies, which for EXP, N and CONST depends on IMM (30_encoding.md R93, R96). -/
def Kind.size (imm : Imm) : Kind → Nat
  | .fq => 1
  | .fr => 1
  | .fq2 => 2
  | .fq6 => 6
  | .fq12 => 12
  | .g1 => 3
  | .g2 => 8
  | .af1 => 2
  | .af2 => 4
  | .u => 1
  | .s2 => 2
  | .s4 => 4
  | .sp6 => 4
  | .sp12 => 6
  | .la => 6
  | .ld => 14
  | .exp => (imm.toNat + 5) / 6
  | .run => imm.toNat + 1
  | .const => constSize imm

/-- IMM of a command: the field where it uses one, otherwise 0 (30_encoding.md R94). -/
def Instr.immField : Instr → Imm
  | .nop => 0
  | .ldc _ imm => imm
  | .mov _ _ imm => imm
  | .clr _ imm => imm
  | .fqAdd _ _ _ => 0
  | .fqSub _ _ _ => 0
  | .fqNeg _ _ => 0
  | .fqMul _ _ _ => 0
  | .fqSqr _ _ => 0
  | .fqExp _ _ _ imm => imm
  | .fqInv _ _ => 0
  | .fqFromint _ _ => 0
  | .fqToint _ _ => 0
  | .fqEq _ _ => 0
  | .fqRand _ => 0
  | .frAdd _ _ _ => 0
  | .frSub _ _ _ => 0
  | .frNeg _ _ => 0
  | .frMul _ _ _ => 0
  | .frSqr _ _ => 0
  | .frExp _ _ _ imm => imm
  | .frInv _ _ => 0
  | .frFromint _ _ => 0
  | .frToint _ _ => 0
  | .frEq _ _ => 0
  | .frRand _ => 0
  | .fq2Add _ _ _ => 0
  | .fq2Sub _ _ _ => 0
  | .fq2Neg _ _ => 0
  | .fq2Mul _ _ _ => 0
  | .fq2Sqr _ _ => 0
  | .fq2Inv _ _ => 0
  | .fq2Conj _ _ => 0
  | .fq2Mulxi _ _ => 0
  | .fq2Frob _ _ imm => imm
  | .fq2Eq _ _ => 0
  | .fq6Add _ _ _ => 0
  | .fq6Sub _ _ _ => 0
  | .fq6Neg _ _ => 0
  | .fq6Mul _ _ _ => 0
  | .fq6Sqr _ _ => 0
  | .fq6Inv _ _ => 0
  | .fq6Mulnr _ _ => 0
  | .fq6Spmul01 _ _ _ => 0
  | .fq6Frob _ _ imm => imm
  | .fq6Eq _ _ => 0
  | .fq12Add _ _ _ => 0
  | .fq12Sub _ _ _ => 0
  | .fq12Neg _ _ => 0
  | .fq12Mul _ _ _ => 0
  | .fq12Sqr _ _ => 0
  | .fq12Inv _ _ => 0
  | .fq12Conj _ _ => 0
  | .fq12Spmul014 _ _ _ => 0
  | .fq12Frob _ _ imm => imm
  | .fq12Eq _ _ => 0
  | .fq12Exp _ _ _ imm => imm
  | .g1Add _ _ _ => 0
  | .g1Dbl _ _ => 0
  | .g1Neg _ _ => 0
  | .g1Smul _ _ _ => 0
  | .g1Smulglv _ _ _ => 0
  | .g1Toaff _ _ => 0
  | .g1Eq _ _ => 0
  | .g1Endo _ _ => 0
  | .g1Fromaff _ _ => 0
  | .g1Ident _ => 0
  | .g2Add _ _ _ => 0
  | .g2Dbl _ _ => 0
  | .g2Neg _ _ => 0
  | .g2Smul _ _ _ => 0
  | .g2Smulgls _ _ _ => 0
  | .g2Toaff _ _ => 0
  | .g2Eq _ _ => 0
  | .g2Psi _ _ => 0
  | .g2Fromaff _ _ => 0
  | .g2Ident _ => 0
  | .linedbl _ _ _ => 0
  | .lineadd _ _ _ => 0
  | .miller _ _ _ => 0
  | .finexp _ _ => 0
  | .pair _ _ _ => 0
  | .latDecomp1 _ _ => 0
  | .latDecomp2 _ _ => 0

/-- The slot operands of a command with their kinds, in the order D, A, B in which they are checked
(30_encoding.md R97, R101). -/
def Instr.operands : Instr → List (SlotNo × Kind)
  | .nop => []
  | .ldc d _ => [(d, .const)]
  | .mov d a _ => [(d, .run), (a, .run)]
  | .clr d _ => [(d, .run)]
  | .fqAdd d a b => [(d, .fq), (a, .fq), (b, .fq)]
  | .fqSub d a b => [(d, .fq), (a, .fq), (b, .fq)]
  | .fqNeg d a => [(d, .fq), (a, .fq)]
  | .fqMul d a b => [(d, .fq), (a, .fq), (b, .fq)]
  | .fqSqr d a => [(d, .fq), (a, .fq)]
  | .fqExp d a b _ => [(d, .fq), (a, .fq), (b, .exp)]
  | .fqInv d a => [(d, .fq), (a, .fq)]
  | .fqFromint d a => [(d, .fq), (a, .u)]
  | .fqToint d a => [(d, .u), (a, .fq)]
  | .fqEq a b => [(a, .fq), (b, .fq)]
  | .fqRand d => [(d, .fq)]
  | .frAdd d a b => [(d, .fr), (a, .fr), (b, .fr)]
  | .frSub d a b => [(d, .fr), (a, .fr), (b, .fr)]
  | .frNeg d a => [(d, .fr), (a, .fr)]
  | .frMul d a b => [(d, .fr), (a, .fr), (b, .fr)]
  | .frSqr d a => [(d, .fr), (a, .fr)]
  | .frExp d a b _ => [(d, .fr), (a, .fr), (b, .exp)]
  | .frInv d a => [(d, .fr), (a, .fr)]
  | .frFromint d a => [(d, .fr), (a, .u)]
  | .frToint d a => [(d, .u), (a, .fr)]
  | .frEq a b => [(a, .fr), (b, .fr)]
  | .frRand d => [(d, .fr)]
  | .fq2Add d a b => [(d, .fq2), (a, .fq2), (b, .fq2)]
  | .fq2Sub d a b => [(d, .fq2), (a, .fq2), (b, .fq2)]
  | .fq2Neg d a => [(d, .fq2), (a, .fq2)]
  | .fq2Mul d a b => [(d, .fq2), (a, .fq2), (b, .fq2)]
  | .fq2Sqr d a => [(d, .fq2), (a, .fq2)]
  | .fq2Inv d a => [(d, .fq2), (a, .fq2)]
  | .fq2Conj d a => [(d, .fq2), (a, .fq2)]
  | .fq2Mulxi d a => [(d, .fq2), (a, .fq2)]
  | .fq2Frob d a _ => [(d, .fq2), (a, .fq2)]
  | .fq2Eq a b => [(a, .fq2), (b, .fq2)]
  | .fq6Add d a b => [(d, .fq6), (a, .fq6), (b, .fq6)]
  | .fq6Sub d a b => [(d, .fq6), (a, .fq6), (b, .fq6)]
  | .fq6Neg d a => [(d, .fq6), (a, .fq6)]
  | .fq6Mul d a b => [(d, .fq6), (a, .fq6), (b, .fq6)]
  | .fq6Sqr d a => [(d, .fq6), (a, .fq6)]
  | .fq6Inv d a => [(d, .fq6), (a, .fq6)]
  | .fq6Mulnr d a => [(d, .fq6), (a, .fq6)]
  | .fq6Spmul01 d a b => [(d, .fq6), (a, .fq6), (b, .sp6)]
  | .fq6Frob d a _ => [(d, .fq6), (a, .fq6)]
  | .fq6Eq a b => [(a, .fq6), (b, .fq6)]
  | .fq12Add d a b => [(d, .fq12), (a, .fq12), (b, .fq12)]
  | .fq12Sub d a b => [(d, .fq12), (a, .fq12), (b, .fq12)]
  | .fq12Neg d a => [(d, .fq12), (a, .fq12)]
  | .fq12Mul d a b => [(d, .fq12), (a, .fq12), (b, .fq12)]
  | .fq12Sqr d a => [(d, .fq12), (a, .fq12)]
  | .fq12Inv d a => [(d, .fq12), (a, .fq12)]
  | .fq12Conj d a => [(d, .fq12), (a, .fq12)]
  | .fq12Spmul014 d a b => [(d, .fq12), (a, .fq12), (b, .sp12)]
  | .fq12Frob d a _ => [(d, .fq12), (a, .fq12)]
  | .fq12Eq a b => [(a, .fq12), (b, .fq12)]
  | .fq12Exp d a b _ => [(d, .fq12), (a, .fq12), (b, .exp)]
  | .g1Add d a b => [(d, .g1), (a, .g1), (b, .g1)]
  | .g1Dbl d a => [(d, .g1), (a, .g1)]
  | .g1Neg d a => [(d, .g1), (a, .g1)]
  | .g1Smul d a b => [(d, .g1), (a, .g1), (b, .u)]
  | .g1Smulglv d a b => [(d, .g1), (a, .g1), (b, .u)]
  | .g1Toaff d a => [(d, .g1), (a, .g1)]
  | .g1Eq a b => [(a, .g1), (b, .g1)]
  | .g1Endo d a => [(d, .g1), (a, .g1)]
  | .g1Fromaff d a => [(d, .g1), (a, .af1)]
  | .g1Ident d => [(d, .g1)]
  | .g2Add d a b => [(d, .g2), (a, .g2), (b, .g2)]
  | .g2Dbl d a => [(d, .g2), (a, .g2)]
  | .g2Neg d a => [(d, .g2), (a, .g2)]
  | .g2Smul d a b => [(d, .g2), (a, .g2), (b, .u)]
  | .g2Smulgls d a b => [(d, .g2), (a, .g2), (b, .u)]
  | .g2Toaff d a => [(d, .g2), (a, .g2)]
  | .g2Eq a b => [(a, .g2), (b, .g2)]
  | .g2Psi d a => [(d, .g2), (a, .g2)]
  | .g2Fromaff d a => [(d, .g2), (a, .af2)]
  | .g2Ident d => [(d, .g2)]
  | .linedbl d a b => [(d, .ld), (a, .g2), (b, .af1)]
  | .lineadd d a b => [(d, .ld), (a, .g2), (b, .la)]
  | .miller d a b => [(d, .fq12), (a, .af1), (b, .af2)]
  | .finexp d a => [(d, .fq12), (a, .fq12)]
  | .pair d a b => [(d, .fq12), (a, .g1), (b, .g2)]
  | .latDecomp1 d a => [(d, .s2), (a, .u)]
  | .latDecomp2 d a => [(d, .s4), (a, .u)]

/-- An operand of `n` slots from slot `b` fits the slot file; an operand of no slots is not checked (30_encoding.md R97). -/
def fits (b : SlotNo) (n : Nat) : Bool := n == 0 || b.toNat + n ≤ 256

end Sys2Proof
end

