-- ==== Sys2Proof/WellFormed.lean ====
section
/-! DEFINITION. When a command is well formed: the one operand value its encoding forbids (LDC's index, 30_encoding.md R95), and,
apart from that, whether every operand fits the slot file (R97). A command that fails the first has no legal word
(ILLEGAL_COMMAND); one that fails the second has a word and raises SLOT_RANGE. -/

namespace Sys2Proof

/-- The command passes the slot-range check (30_encoding.md R97). -/
def Instr.slotsOk (i : Instr) : Bool := i.operands.all fun o => fits o.1 (o.2.size i.immField)

/-- The command has a legal word: LDC's constant index is 0 to 13 (30_encoding.md R95); every other field admits every value. -/
def Instr.wellFormed : Instr → Bool
  | .ldc _ imm => imm.toNat ≤ 13
  | .nop => true
  | .mov _ _ _ => true
  | .clr _ _ => true
  | .fqAdd _ _ _ => true
  | .fqSub _ _ _ => true
  | .fqNeg _ _ => true
  | .fqMul _ _ _ => true
  | .fqSqr _ _ => true
  | .fqExp _ _ _ _ => true
  | .fqInv _ _ => true
  | .fqFromint _ _ => true
  | .fqToint _ _ => true
  | .fqEq _ _ => true
  | .fqRand _ => true
  | .frAdd _ _ _ => true
  | .frSub _ _ _ => true
  | .frNeg _ _ => true
  | .frMul _ _ _ => true
  | .frSqr _ _ => true
  | .frExp _ _ _ _ => true
  | .frInv _ _ => true
  | .frFromint _ _ => true
  | .frToint _ _ => true
  | .frEq _ _ => true
  | .frRand _ => true
  | .fq2Add _ _ _ => true
  | .fq2Sub _ _ _ => true
  | .fq2Neg _ _ => true
  | .fq2Mul _ _ _ => true
  | .fq2Sqr _ _ => true
  | .fq2Inv _ _ => true
  | .fq2Conj _ _ => true
  | .fq2Mulxi _ _ => true
  | .fq2Frob _ _ _ => true
  | .fq2Eq _ _ => true
  | .fq6Add _ _ _ => true
  | .fq6Sub _ _ _ => true
  | .fq6Neg _ _ => true
  | .fq6Mul _ _ _ => true
  | .fq6Sqr _ _ => true
  | .fq6Inv _ _ => true
  | .fq6Mulnr _ _ => true
  | .fq6Spmul01 _ _ _ => true
  | .fq6Frob _ _ _ => true
  | .fq6Eq _ _ => true
  | .fq12Add _ _ _ => true
  | .fq12Sub _ _ _ => true
  | .fq12Neg _ _ => true
  | .fq12Mul _ _ _ => true
  | .fq12Sqr _ _ => true
  | .fq12Inv _ _ => true
  | .fq12Conj _ _ => true
  | .fq12Spmul014 _ _ _ => true
  | .fq12Frob _ _ _ => true
  | .fq12Eq _ _ => true
  | .fq12Exp _ _ _ _ => true
  | .g1Add _ _ _ => true
  | .g1Dbl _ _ => true
  | .g1Neg _ _ => true
  | .g1Smul _ _ _ => true
  | .g1Smulglv _ _ _ => true
  | .g1Toaff _ _ => true
  | .g1Eq _ _ => true
  | .g1Endo _ _ => true
  | .g1Fromaff _ _ => true
  | .g1Ident _ => true
  | .g2Add _ _ _ => true
  | .g2Dbl _ _ => true
  | .g2Neg _ _ => true
  | .g2Smul _ _ _ => true
  | .g2Smulgls _ _ _ => true
  | .g2Toaff _ _ => true
  | .g2Eq _ _ => true
  | .g2Psi _ _ => true
  | .g2Fromaff _ _ => true
  | .g2Ident _ => true
  | .linedbl _ _ _ => true
  | .lineadd _ _ _ => true
  | .miller _ _ _ => true
  | .finexp _ _ => true
  | .pair _ _ _ => true
  | .latDecomp1 _ _ => true
  | .latDecomp2 _ _ => true

end Sys2Proof
end

