-- ==== Sys2Proof/Decode.lean ====
section
/-! DEFINITION. Decoding of a 64-bit command word (30_encoding.md R90 to R105), total and rejecting by name, and after it the
encoder. The slot-range check, which R97 places after decoding, is made where the command starts to run
(`Sys2Proof.Machine.checkSlots`; log entry 18). -/

namespace Sys2Proof

/-- Why a word is no command. Each of these raises ILLEGAL_COMMAND (30_encoding.md R92, R94, R95, R102, R103;
60_exceptions.md R321). -/
inductive DecodeError where
  /-- Bits [63:40] are not all zero (R92). -/
  | highBits
  /-- OP is not listed in R101, so it is reserved (R103). -/
  | reservedOpcode
  /-- A field the command does not use is not zero (R94). -/
  | unusedField (f : Field)
  /-- LDC with IMM above 13 (R95). -/
  | ldcIndex
  deriving DecidableEq, Repr

/-- The fields of a command word (30_encoding.md R90). -/
structure Fields where
  high : BitVec 24
  imm : Imm
  b : SlotNo
  a : SlotNo
  d : SlotNo
  op : BitVec 8
  deriving DecidableEq, Repr

/-- Bits [7:0], [15:8], [23:16], [31:24], [39:32] and [63:40] of a command word (30_encoding.md R90). -/
def unpack (w : Word) : Fields where
  op := w.extractLsb' 0 8
  d := w.extractLsb' 8 8
  a := w.extractLsb' 16 8
  b := w.extractLsb' 24 8
  imm := w.extractLsb' 32 8
  high := w.extractLsb' 40 24

/-- The word with these fields (30_encoding.md R90). -/
def pack (f : Fields) : Word := f.high ++ f.imm ++ f.b ++ f.a ++ f.d ++ f.op

/-- One row of 30_encoding.md R101: which fields the command uses, and the command those fields make. -/
structure Form where
  usesD : Bool
  usesA : Bool
  usesB : Bool
  usesImm : Bool
  make : Fields → Instr

/-- The row of an opcode, or none for a reserved one (30_encoding.md R101, R103). -/
def formOf (op : Nat) : Option Form :=
  match op with
  | 0x00 => some ⟨false, false, false, false, fun _ => .nop⟩
  | 0x01 => some ⟨true, false, false, true, fun f => .ldc f.d f.imm⟩
  | 0x02 => some ⟨true, true, false, true, fun f => .mov f.d f.a f.imm⟩
  | 0x03 => some ⟨true, false, false, true, fun f => .clr f.d f.imm⟩
  | 0x10 => some ⟨true, true, true, false, fun f => .fqAdd f.d f.a f.b⟩
  | 0x11 => some ⟨true, true, true, false, fun f => .fqSub f.d f.a f.b⟩
  | 0x12 => some ⟨true, true, false, false, fun f => .fqNeg f.d f.a⟩
  | 0x13 => some ⟨true, true, true, false, fun f => .fqMul f.d f.a f.b⟩
  | 0x14 => some ⟨true, true, false, false, fun f => .fqSqr f.d f.a⟩
  | 0x15 => some ⟨true, true, true, true, fun f => .fqExp f.d f.a f.b f.imm⟩
  | 0x16 => some ⟨true, true, false, false, fun f => .fqInv f.d f.a⟩
  | 0x17 => some ⟨true, true, false, false, fun f => .fqFromint f.d f.a⟩
  | 0x18 => some ⟨true, true, false, false, fun f => .fqToint f.d f.a⟩
  | 0x19 => some ⟨false, true, true, false, fun f => .fqEq f.a f.b⟩
  | 0x1A => some ⟨true, false, false, false, fun f => .fqRand f.d⟩
  | 0x20 => some ⟨true, true, true, false, fun f => .frAdd f.d f.a f.b⟩
  | 0x21 => some ⟨true, true, true, false, fun f => .frSub f.d f.a f.b⟩
  | 0x22 => some ⟨true, true, false, false, fun f => .frNeg f.d f.a⟩
  | 0x23 => some ⟨true, true, true, false, fun f => .frMul f.d f.a f.b⟩
  | 0x24 => some ⟨true, true, false, false, fun f => .frSqr f.d f.a⟩
  | 0x25 => some ⟨true, true, true, true, fun f => .frExp f.d f.a f.b f.imm⟩
  | 0x26 => some ⟨true, true, false, false, fun f => .frInv f.d f.a⟩
  | 0x27 => some ⟨true, true, false, false, fun f => .frFromint f.d f.a⟩
  | 0x28 => some ⟨true, true, false, false, fun f => .frToint f.d f.a⟩
  | 0x29 => some ⟨false, true, true, false, fun f => .frEq f.a f.b⟩
  | 0x2A => some ⟨true, false, false, false, fun f => .frRand f.d⟩
  | 0x30 => some ⟨true, true, true, false, fun f => .fq2Add f.d f.a f.b⟩
  | 0x31 => some ⟨true, true, true, false, fun f => .fq2Sub f.d f.a f.b⟩
  | 0x32 => some ⟨true, true, false, false, fun f => .fq2Neg f.d f.a⟩
  | 0x33 => some ⟨true, true, true, false, fun f => .fq2Mul f.d f.a f.b⟩
  | 0x34 => some ⟨true, true, false, false, fun f => .fq2Sqr f.d f.a⟩
  | 0x35 => some ⟨true, true, false, false, fun f => .fq2Inv f.d f.a⟩
  | 0x36 => some ⟨true, true, false, false, fun f => .fq2Conj f.d f.a⟩
  | 0x37 => some ⟨true, true, false, false, fun f => .fq2Mulxi f.d f.a⟩
  | 0x38 => some ⟨true, true, false, true, fun f => .fq2Frob f.d f.a f.imm⟩
  | 0x39 => some ⟨false, true, true, false, fun f => .fq2Eq f.a f.b⟩
  | 0x40 => some ⟨true, true, true, false, fun f => .fq6Add f.d f.a f.b⟩
  | 0x41 => some ⟨true, true, true, false, fun f => .fq6Sub f.d f.a f.b⟩
  | 0x42 => some ⟨true, true, false, false, fun f => .fq6Neg f.d f.a⟩
  | 0x43 => some ⟨true, true, true, false, fun f => .fq6Mul f.d f.a f.b⟩
  | 0x44 => some ⟨true, true, false, false, fun f => .fq6Sqr f.d f.a⟩
  | 0x45 => some ⟨true, true, false, false, fun f => .fq6Inv f.d f.a⟩
  | 0x46 => some ⟨true, true, false, false, fun f => .fq6Mulnr f.d f.a⟩
  | 0x47 => some ⟨true, true, true, false, fun f => .fq6Spmul01 f.d f.a f.b⟩
  | 0x48 => some ⟨true, true, false, true, fun f => .fq6Frob f.d f.a f.imm⟩
  | 0x49 => some ⟨false, true, true, false, fun f => .fq6Eq f.a f.b⟩
  | 0x50 => some ⟨true, true, true, false, fun f => .fq12Add f.d f.a f.b⟩
  | 0x51 => some ⟨true, true, true, false, fun f => .fq12Sub f.d f.a f.b⟩
  | 0x52 => some ⟨true, true, false, false, fun f => .fq12Neg f.d f.a⟩
  | 0x53 => some ⟨true, true, true, false, fun f => .fq12Mul f.d f.a f.b⟩
  | 0x54 => some ⟨true, true, false, false, fun f => .fq12Sqr f.d f.a⟩
  | 0x55 => some ⟨true, true, false, false, fun f => .fq12Inv f.d f.a⟩
  | 0x56 => some ⟨true, true, false, false, fun f => .fq12Conj f.d f.a⟩
  | 0x57 => some ⟨true, true, true, false, fun f => .fq12Spmul014 f.d f.a f.b⟩
  | 0x58 => some ⟨true, true, false, true, fun f => .fq12Frob f.d f.a f.imm⟩
  | 0x59 => some ⟨false, true, true, false, fun f => .fq12Eq f.a f.b⟩
  | 0x5A => some ⟨true, true, true, true, fun f => .fq12Exp f.d f.a f.b f.imm⟩
  | 0x60 => some ⟨true, true, true, false, fun f => .g1Add f.d f.a f.b⟩
  | 0x61 => some ⟨true, true, false, false, fun f => .g1Dbl f.d f.a⟩
  | 0x62 => some ⟨true, true, false, false, fun f => .g1Neg f.d f.a⟩
  | 0x63 => some ⟨true, true, true, false, fun f => .g1Smul f.d f.a f.b⟩
  | 0x64 => some ⟨true, true, true, false, fun f => .g1Smulglv f.d f.a f.b⟩
  | 0x65 => some ⟨true, true, false, false, fun f => .g1Toaff f.d f.a⟩
  | 0x66 => some ⟨false, true, true, false, fun f => .g1Eq f.a f.b⟩
  | 0x67 => some ⟨true, true, false, false, fun f => .g1Endo f.d f.a⟩
  | 0x68 => some ⟨true, true, false, false, fun f => .g1Fromaff f.d f.a⟩
  | 0x69 => some ⟨true, false, false, false, fun f => .g1Ident f.d⟩
  | 0x70 => some ⟨true, true, true, false, fun f => .g2Add f.d f.a f.b⟩
  | 0x71 => some ⟨true, true, false, false, fun f => .g2Dbl f.d f.a⟩
  | 0x72 => some ⟨true, true, false, false, fun f => .g2Neg f.d f.a⟩
  | 0x73 => some ⟨true, true, true, false, fun f => .g2Smul f.d f.a f.b⟩
  | 0x74 => some ⟨true, true, true, false, fun f => .g2Smulgls f.d f.a f.b⟩
  | 0x75 => some ⟨true, true, false, false, fun f => .g2Toaff f.d f.a⟩
  | 0x76 => some ⟨false, true, true, false, fun f => .g2Eq f.a f.b⟩
  | 0x77 => some ⟨true, true, false, false, fun f => .g2Psi f.d f.a⟩
  | 0x78 => some ⟨true, true, false, false, fun f => .g2Fromaff f.d f.a⟩
  | 0x79 => some ⟨true, false, false, false, fun f => .g2Ident f.d⟩
  | 0x80 => some ⟨true, true, true, false, fun f => .linedbl f.d f.a f.b⟩
  | 0x81 => some ⟨true, true, true, false, fun f => .lineadd f.d f.a f.b⟩
  | 0x82 => some ⟨true, true, true, false, fun f => .miller f.d f.a f.b⟩
  | 0x83 => some ⟨true, true, false, false, fun f => .finexp f.d f.a⟩
  | 0x84 => some ⟨true, true, true, false, fun f => .pair f.d f.a f.b⟩
  | 0x90 => some ⟨true, true, false, false, fun f => .latDecomp1 f.d f.a⟩
  | 0x91 => some ⟨true, true, false, false, fun f => .latDecomp2 f.d f.a⟩
  | _ => none

/-- The first field that the row leaves unused and that is not zero, in the order D, A, B, IMM (30_encoding.md R102). -/
def unusedField (r : Form) (f : Fields) : Option Field :=
  if !r.usesD && f.d != 0 then some .d
  else if !r.usesA && f.a != 0 then some .a
  else if !r.usesB && f.b != 0 then some .b
  else if !r.usesImm && f.imm != 0 then some .imm
  else none

/-- The checks of 30_encoding.md R102 that raise ILLEGAL_COMMAND, in its order: high bits, OP, unused fields, LDC index. -/
def decodeFields (f : Fields) : Except DecodeError Instr :=
  if f.high != 0 then .error .highBits
  else
    match formOf f.op.toNat with
    | none => .error .reservedOpcode
    | some r =>
      match unusedField r f with
      | some x => .error (.unusedField x)
      | none => if (r.make f).wellFormed then .ok (r.make f) else .error .ldcIndex

/-- Decoding of a command word (30_encoding.md R102). -/
def decode (w : Word) : Except DecodeError Instr := decodeFields (unpack w)

/-- The word a fields record with zero high bits makes: the encoder's one shape (30_encoding.md R90). -/
def encodeWord (op : BitVec 8) (d a b : SlotNo) (imm : Imm) : Word :=
  pack ⟨0, imm, b, a, d, op⟩

/-- The command word of a command: OP of 30_encoding.md R101, the used fields, zero everywhere else (R90, R94). -/
def encode : Instr → Word
  | .nop => encodeWord 0x00 0 0 0 0
  | .ldc d imm => encodeWord 0x01 d 0 0 imm
  | .mov d a imm => encodeWord 0x02 d a 0 imm
  | .clr d imm => encodeWord 0x03 d 0 0 imm
  | .fqAdd d a b => encodeWord 0x10 d a b 0
  | .fqSub d a b => encodeWord 0x11 d a b 0
  | .fqNeg d a => encodeWord 0x12 d a 0 0
  | .fqMul d a b => encodeWord 0x13 d a b 0
  | .fqSqr d a => encodeWord 0x14 d a 0 0
  | .fqExp d a b imm => encodeWord 0x15 d a b imm
  | .fqInv d a => encodeWord 0x16 d a 0 0
  | .fqFromint d a => encodeWord 0x17 d a 0 0
  | .fqToint d a => encodeWord 0x18 d a 0 0
  | .fqEq a b => encodeWord 0x19 0 a b 0
  | .fqRand d => encodeWord 0x1A d 0 0 0
  | .frAdd d a b => encodeWord 0x20 d a b 0
  | .frSub d a b => encodeWord 0x21 d a b 0
  | .frNeg d a => encodeWord 0x22 d a 0 0
  | .frMul d a b => encodeWord 0x23 d a b 0
  | .frSqr d a => encodeWord 0x24 d a 0 0
  | .frExp d a b imm => encodeWord 0x25 d a b imm
  | .frInv d a => encodeWord 0x26 d a 0 0
  | .frFromint d a => encodeWord 0x27 d a 0 0
  | .frToint d a => encodeWord 0x28 d a 0 0
  | .frEq a b => encodeWord 0x29 0 a b 0
  | .frRand d => encodeWord 0x2A d 0 0 0
  | .fq2Add d a b => encodeWord 0x30 d a b 0
  | .fq2Sub d a b => encodeWord 0x31 d a b 0
  | .fq2Neg d a => encodeWord 0x32 d a 0 0
  | .fq2Mul d a b => encodeWord 0x33 d a b 0
  | .fq2Sqr d a => encodeWord 0x34 d a 0 0
  | .fq2Inv d a => encodeWord 0x35 d a 0 0
  | .fq2Conj d a => encodeWord 0x36 d a 0 0
  | .fq2Mulxi d a => encodeWord 0x37 d a 0 0
  | .fq2Frob d a imm => encodeWord 0x38 d a 0 imm
  | .fq2Eq a b => encodeWord 0x39 0 a b 0
  | .fq6Add d a b => encodeWord 0x40 d a b 0
  | .fq6Sub d a b => encodeWord 0x41 d a b 0
  | .fq6Neg d a => encodeWord 0x42 d a 0 0
  | .fq6Mul d a b => encodeWord 0x43 d a b 0
  | .fq6Sqr d a => encodeWord 0x44 d a 0 0
  | .fq6Inv d a => encodeWord 0x45 d a 0 0
  | .fq6Mulnr d a => encodeWord 0x46 d a 0 0
  | .fq6Spmul01 d a b => encodeWord 0x47 d a b 0
  | .fq6Frob d a imm => encodeWord 0x48 d a 0 imm
  | .fq6Eq a b => encodeWord 0x49 0 a b 0
  | .fq12Add d a b => encodeWord 0x50 d a b 0
  | .fq12Sub d a b => encodeWord 0x51 d a b 0
  | .fq12Neg d a => encodeWord 0x52 d a 0 0
  | .fq12Mul d a b => encodeWord 0x53 d a b 0
  | .fq12Sqr d a => encodeWord 0x54 d a 0 0
  | .fq12Inv d a => encodeWord 0x55 d a 0 0
  | .fq12Conj d a => encodeWord 0x56 d a 0 0
  | .fq12Spmul014 d a b => encodeWord 0x57 d a b 0
  | .fq12Frob d a imm => encodeWord 0x58 d a 0 imm
  | .fq12Eq a b => encodeWord 0x59 0 a b 0
  | .fq12Exp d a b imm => encodeWord 0x5A d a b imm
  | .g1Add d a b => encodeWord 0x60 d a b 0
  | .g1Dbl d a => encodeWord 0x61 d a 0 0
  | .g1Neg d a => encodeWord 0x62 d a 0 0
  | .g1Smul d a b => encodeWord 0x63 d a b 0
  | .g1Smulglv d a b => encodeWord 0x64 d a b 0
  | .g1Toaff d a => encodeWord 0x65 d a 0 0
  | .g1Eq a b => encodeWord 0x66 0 a b 0
  | .g1Endo d a => encodeWord 0x67 d a 0 0
  | .g1Fromaff d a => encodeWord 0x68 d a 0 0
  | .g1Ident d => encodeWord 0x69 d 0 0 0
  | .g2Add d a b => encodeWord 0x70 d a b 0
  | .g2Dbl d a => encodeWord 0x71 d a 0 0
  | .g2Neg d a => encodeWord 0x72 d a 0 0
  | .g2Smul d a b => encodeWord 0x73 d a b 0
  | .g2Smulgls d a b => encodeWord 0x74 d a b 0
  | .g2Toaff d a => encodeWord 0x75 d a 0 0
  | .g2Eq a b => encodeWord 0x76 0 a b 0
  | .g2Psi d a => encodeWord 0x77 d a 0 0
  | .g2Fromaff d a => encodeWord 0x78 d a 0 0
  | .g2Ident d => encodeWord 0x79 d 0 0 0
  | .linedbl d a b => encodeWord 0x80 d a b 0
  | .lineadd d a b => encodeWord 0x81 d a b 0
  | .miller d a b => encodeWord 0x82 d a b 0
  | .finexp d a => encodeWord 0x83 d a 0 0
  | .pair d a b => encodeWord 0x84 d a b 0
  | .latDecomp1 d a => encodeWord 0x90 d a 0 0
  | .latDecomp2 d a => encodeWord 0x91 d a 0 0

/-- The 64-bit value of up to eight bytes in the block's byte order: byte k carries bits [8k+7:8k] (20_memory.md R61). -/
def wordOfBytes : List Byte → Nat
  | [] => 0
  | x :: xs => x.toNat + 256 * wordOfBytes xs

/-- The bytes of a 64-bit value in the block's byte order, lowest address first (20_memory.md R61). -/
def bytesOfWord (n : Nat) : Nat → List Byte
  | 0 => []
  | k + 1 => BitVec.ofNat 8 n :: bytesOfWord (n / 256) k

/-- Decoding of the eight bytes a CMD write carries, lowest address first (20_memory.md R61; 30_encoding.md R90). -/
def decodeBytes (bs : List Byte) : Except DecodeError Instr := decode (BitVec.ofNat 64 (wordOfBytes bs))

/-- The command of an opcode-table word of `nbits` bits (the table's rows have 64): its bytes as the host writes them to CMD,
decoded. -/
def decodeTableWord (nbits w : Nat) : Option Instr :=
  (decodeBytes (bytesOfWord (w % 2 ^ nbits) 8)).toOption

end Sys2Proof
end

