-- ==== Sys2Proof/Config.lean ====
section
/-! DEFINITION. The fixed parameters of the core (00_scope.md R8 to R11) and the parameters the platform chooses, which the
spec leaves open and which are opaque here: nothing can be proved about a value of theirs (92_eei_decisions.md, "Open
parameters"; 93_implementation_defined.md U4, U20). -/

namespace Sys2Proof.Config

/-- The base-field prime q (00_scope.md R9). -/
abbrev q : Nat :=
  0x1a0111ea397fe69a4b1ba7b6434bacd764774b84f38512bf6730d2a0f6b0f6241eabfffeb153ffffb9feffffffffaaab

/-- The group order r, modulus of the scalar field (00_scope.md R10). -/
abbrev r : Nat :=
  0x73eda753299d7d483339d80809a1d80553bda402fffe5bfeffffffff00000001

/-- The magnitude of the curve parameter (00_scope.md R11). -/
abbrev uAbs : Nat := 0xd201000000010000

/-- The curve parameter u; it is negative (00_scope.md R11; 90_conflicts.md C1). -/
abbrev u : Int := -15132376222941642752

/-- The Montgomery radix R = 2^384 of Fq (00_scope.md R8; 41_field_fq_fr.md R140). -/
abbrev radixQ : Nat := 2 ^ 384

/-- The Montgomery radix R' = 2^256 of Fr (00_scope.md R8; 41_field_fq_fr.md R140). -/
abbrev radixR : Nat := 2 ^ 256

/-- NSLOT, the number of slots (00_scope.md R8; 10_state.md R20). -/
abbrev slotCount : Nat := 256

/-- ENT_DEPTH, the depth of the entropy FIFO in 64-bit words (00_scope.md R8; 10_state.md R41). -/
abbrev entDepth : Nat := 64

/-- The size of the register block in bytes (00_scope.md R8; 10_state.md R30). -/
abbrev blockSize : Nat := 0x4000

/-- OPEN parameter BASE, counted in 16 KiB pages: BASE is a multiple of 0x4000 that the platform chooses
(20_memory.md R67; 92_eei_decisions.md D4). Free value; log entry 3. -/
opaque basePage : Nat

/-- BASE, the host address of the register block: 16 KiB aligned (20_memory.md R67). -/
def base : Nat := blockSize * basePage

/-- OPEN parameter LATENCY(op, operands): how long a command runs after it is accepted, as a function of the command word,
the slot contents and the queued entropy words (70_reset_and_hazards.md R372, R373; 92_eei_decisions.md D41). It is finite
and no rule depends on it. Free value; log entry 4. -/
opaque latency : Word → List SlotWord → List Word → Nat

/-- Whether the platform's bus splits an access wider than 8 bytes into 8-byte beats before it reaches the block; the spec
leaves this to the platform (20_memory.md R62). Free value; log entry 5. -/
opaque busSplits : Bool

end Sys2Proof.Config
end

