-- ==== Sys2Proof/Machine/State.lean ====
section
/-! DEFINITION. The architectural state of the core (10_state.md), as plain data, the reasons the model can stop, and the state
after power-on reset. -/

namespace Sys2Proof.Machine

/-- Why a step of the model stops. The core's own errors are no faults: they are recorded in STATUS and ERRINFO, and the machine
goes on (60_exceptions.md R324, R329). -/
inductive Fault where
  /-- Raised when an arrived access lies outside the 16 KiB block: such an access does not reach the core and the platform
  decides what it does (20_memory.md R67). Safe: the model stops where the core does nothing. Log entry 11. -/
  | outsideBlock
  deriving DecidableEq, Repr

/-- Why the model gives an instruction no meaning. -/
inductive Refusal where
  /-- Raised by an arm of `exec` whose command has no meaning yet; no command is in this case. Safe. -/
  | notModelled (mnemonic : String)
  deriving DecidableEq, Repr

/-- One host bus access to the register block, before it is performed: its byte offset from BASE, its width in bytes and, for a
write, the 64-bit data (20_memory.md R60 to R62). The data of a write that is not 8 bytes wide is never used (R62). -/
inductive Access where
  | read (off width : Nat)
  | write (off width : Nat) (v : Word)
  deriving DecidableEq, Repr

/-- The nine error codes (60_exceptions.md R320). -/
inductive ErrCode where
  | illegalCommand
  | slotRange
  | noncanonical
  | tInvariant
  | outOfBounds
  | divisionByZero
  | scalarRange
  | entropyExhausted
  | access
  deriving DecidableEq, Repr

/-- The state of the core (10_state.md R45), one field for each state element. -/
structure State where
  /-- slot[0..255], 384 bits each (10_state.md R20). -/
  slots : Vector SlotWord 256
  /-- CTRL.DONE_IE (10_state.md R32). -/
  doneIe : Bool
  /-- CTRL.ERR_IE (10_state.md R32). -/
  errIe : Bool
  /-- STATUS.DONE (10_state.md R33). -/
  done : Bool
  /-- STATUS.ERR (10_state.md R33). -/
  err : Bool
  /-- STATUS.EQ, the one condition flag (10_state.md R33, R39). -/
  eq : Bool
  /-- STATUS.ERRCODE (10_state.md R33; 60_exceptions.md R320). -/
  errcode : BitVec 8
  /-- ERRINFO (10_state.md R35). -/
  errinfo : Word
  /-- The entropy FIFO, head first (10_state.md R41). -/
  entropy : List Word
  /-- The command word in flight; STATUS.BUSY is 1 exactly while there is one (10_state.md R33, R42). -/
  inflight : Option Word
  /-- The time the command in flight still takes: the model's own counter of LATENCY (70_reset_and_hazards.md R372; log entry 4). -/
  wait : Nat
  /-- The host accesses that have arrived and are not performed yet, oldest first: the held ones of 20_memory.md R66 are among
  them (log entry 2). -/
  pending : List Access
  /-- What the bus returned for the last read performed: the model's own field (log entry 6). -/
  rdata : Word
  deriving DecidableEq, Repr

/-- The state when power-on reset is released, for slots that hold `contents`: the spec leaves the slots unspecified and fixes
everything else (10_state.md R46; 70_reset_and_hazards.md R360; 93_implementation_defined.md U5). -/
def State.powerOn (contents : Vector SlotWord 256) : State where
  slots := contents
  doneIe := false
  errIe := false
  done := false
  err := false
  eq := false
  errcode := 0
  errinfo := 0
  entropy := []
  inflight := none
  wait := 0
  pending := []
  rdata := 0

/-- The state after power-on reset, with zero in every slot. DESIGN CHOICE (log entry 1), unsafe: the spec leaves the slots
unspecified. -/
def State.reset : State := State.powerOn (Vector.replicate 256 0)

end Sys2Proof.Machine
end

