-- ==== Sys2Proof/Machine/Ops.lean ====
section
/-! DEFINITION. The operations the commands share: slots and limbs, the entropy FIFO, the slot-range check, completing a command,
raising an error (the core's one form of exception) and clearing it, accepting a command, and the soft reset. -/

namespace Sys2Proof.Machine

/-- What a command answers. -/
abbrev Outcome := Host.Outcome State Fault Refusal

/-- What a command computes before it commits: a value, or the error it raises (60_exceptions.md R322). -/
abbrev Result (α : Type) := Except ErrCode α

/-- The value of STATUS.ERRCODE for an error (60_exceptions.md R320). -/
def ErrCode.code : ErrCode → BitVec 8
  | .illegalCommand => 1
  | .slotRange => 2
  | .noncanonical => 3
  | .tInvariant => 4
  | .outOfBounds => 5
  | .divisionByZero => 6
  | .scalarRange => 7
  | .entropyExhausted => 8
  | .access => 9

/-! ### Slots and limbs -/

/-- Limb `l` of a slot word: bits [64l+63:64l] (10_state.md R20). -/
def limbOf (w : SlotWord) (l : Nat) : Word := w.extractLsb' (64 * l) 64

/-- The slot word with limb `l` replaced (20_memory.md R64); an `l` above 5 names no limb and changes nothing. -/
def setLimbOf (w : SlotWord) (l : Nat) (v : Word) : SlotWord :=
  (w &&& ~~~((BitVec.allOnes 64).setWidth 384 <<< (64 * l))) ||| (v.setWidth 384 <<< (64 * l))

/-- slot[n] (10_state.md R20). Commands read only slots below 256 (30_encoding.md R97); any other number reads 0. -/
def State.slot (s : State) (n : Nat) : SlotWord := s.slots.getD n 0

/-- slot[n] <- v (00_scope.md R15); a number that is no slot changes nothing. -/
def State.setSlot (s : State) (n : Nat) (v : SlotWord) : State :=
  { s with slots := s.slots.setIfInBounds n v }

/-- The run of `n` slots from slot `a` (30_encoding.md R91). -/
def State.readRun (s : State) (a : Nat) : Nat → List SlotWord
  | 0 => []
  | n + 1 => s.slot a :: s.readRun (a + 1) n

/-- The slots from `d` on take the given words, in increasing slot order (10_state.md R24). -/
def State.writeRun (s : State) (d : Nat) : List SlotWord → State
  | [] => s
  | w :: ws => (s.setSlot d w).writeRun (d + 1) ws

/-! ### Completing a command, and its errors -/

/-- STATUS.BUSY (10_state.md R33, R42). -/
def State.busy (s : State) : Bool := s.inflight.isSome

/-- A command that raised no error is over: BUSY <- 0, DONE <- 1 (60_exceptions.md R330). -/
def State.complete (s : State) : State := { s with inflight := none, done := true }

/-- Taking the core's exception: a command raises an error. BUSY <- 0, ERR <- 1, ERRCODE <- its code, ERRINFO <- the command
word in flight; DONE, EQ and every slot stay (60_exceptions.md R324, R326). Log entry 10. -/
def State.raise (s : State) (c : ErrCode) : State :=
  { s with inflight := none, err := true, errcode := c.code, errinfo := s.inflight.getD 0 }

/-- The return from an error: the host clears ERR, and with it ERRCODE and ERRINFO (60_exceptions.md R328; 10_state.md R33). -/
def State.clearError (s : State) : State := { s with err := false, errcode := 0, errinfo := 0 }

/-- The error of a host access that is not 8 bytes wide or not 8-byte aligned, recorded only while ERR = 0
(20_memory.md R62; 60_exceptions.md R323, R324). -/
def State.accessError (s : State) (off : Nat) : State :=
  if s.err then s
  else { s with err := true, errcode := ErrCode.access.code, errinfo := BitVec.ofNat 64 off }

/-- A command ends that writes a run of slots from `d`: all of it at once, or the error and nothing (00_scope.md R17;
60_exceptions.md R326, R330). -/
def State.finishSlots (s : State) (d : SlotNo) : Result (List SlotWord) → Outcome
  | .ok ws => .next (s.writeRun d.toNat ws).complete
  | .error c => .next (s.raise c)

/-- An equality command ends: it writes EQ, or raises the error and leaves EQ (10_state.md R39; 60_exceptions.md R326). -/
def State.finishEq (s : State) : Result Bool → Outcome
  | .ok b => .next { s with eq := b }.complete
  | .error c => .next (s.raise c)

/-- A command ends that samples from the entropy FIFO: the words its draws popped are gone even when it raises
ENTROPY_EXHAUSTED (41_field_fq_fr.md R155, R168; 60_exceptions.md R326). `rest` is what is left of the FIFO. DESIGN CHOICE (log
entry 21): all pops show in ENTLEVEL at the command's end, none before. -/
def State.finishDraw (s : State) (d : SlotNo) (res : Result (List SlotWord)) (rest : List Word) : Outcome :=
  { s with entropy := rest }.finishSlots d res

/-- The slot-range check: every operand, in the order given, must fit the slot file (30_encoding.md R97, R102). -/
def checkSlots (imm : Imm) : List (SlotNo × Kind) → Result Unit
  | [] => .ok ()
  | o :: os => if fits o.1 (o.2.size imm) then checkSlots imm os else .error .slotRange

/-! ### Entropy -/

/-- A word written to ENTROPY goes to the tail of the FIFO, or is dropped when the FIFO is full (10_state.md R36, R41). -/
def State.pushEntropy (s : State) (v : Word) : State :=
  if s.entropy.length < Config.entDepth then { s with entropy := s.entropy ++ [v] } else s

/-! ### Acceptance and soft reset -/

/-- A performed write of CMD: discarded while ERR = 1; otherwise DONE <- 0 and the command is in flight, for the time LATENCY
gives it (60_exceptions.md R327, R330; 70_reset_and_hazards.md R372; log entry 4). -/
def State.accept (s : State) (v : Word) : State :=
  if s.err then s
  else { s with done := false, inflight := some v, wait := Config.latency v s.slots.toList s.entropy }

/-- The soft reset: enables, DONE, ERR, ERRCODE, EQ and ERRINFO are cleared and the entropy FIFO is emptied; slots stay
(70_reset_and_hazards.md R361; 10_state.md R46). -/
def State.softReset (s : State) : State :=
  { s with
    doneIe := false
    errIe := false
    done := false
    err := false
    errcode := 0
    eq := false
    errinfo := 0
    entropy := [] }

end Sys2Proof.Machine
end

