-- ==== Sys2Proof/Machine/Flags.lean ====
section
/-! DEFINITION. The control and status words as the host sees them, the write rules of their bits, and the interrupt output
(10_state.md R31 to R37, R43). -/

namespace Sys2Proof.Machine

/-- A one-bit value at bit `k` of a 64-bit word. -/
def bitAt (k : Nat) (b : Bool) : Word := if b then 1#64 <<< k else 0

/-- ID: KIND 0x0381, REV 0x01, NSLOT_M1 0xFF, ENT_DEPTH 0x40 (10_state.md R31). -/
def idWord : Word := 0x00000040FF010381

/-- CTRL as it reads: DONE_IE at bit 0, ERR_IE at bit 1, SRST and the reserved bits 0 (10_state.md R32). -/
def State.ctrlWord (s : State) : Word := bitAt 0 s.doneIe ||| bitAt 1 s.errIe

/-- STATUS as it reads: BUSY, DONE, ERR and EQ at bits 0 to 3, ERRCODE at bits [15:8], the rest 0 (10_state.md R33). -/
def State.statusWord (s : State) : Word :=
  bitAt 0 s.busy ||| bitAt 1 s.done ||| bitAt 2 s.err ||| bitAt 3 s.eq ||| (s.errcode.setWidth 64 <<< 8)

/-- ENTLEVEL: the number of queued entropy words in bits [6:0] (10_state.md R37). -/
def State.entLevelWord (s : State) : Word := (BitVec.ofNat 7 s.entropy.length).setWidth 64

/-- A write of CTRL: SRST = 1 is a soft reset, otherwise bits [1:0] are the enables (10_state.md R32). -/
def State.writeCtrl (s : State) (v : Word) : State :=
  if v.getLsbD 2 then s.softReset
  else { s with doneIe := v.getLsbD 0, errIe := v.getLsbD 1 }

/-- A write of STATUS: a 1 in bit 1 clears DONE, a 1 in bit 2 clears ERR, ERRCODE and ERRINFO; all other bits are ignored
(10_state.md R33; 60_exceptions.md R328). -/
def State.writeStatus (s : State) (v : Word) : State :=
  let s₁ := if v.getLsbD 1 then { s with done := false } else s
  if v.getLsbD 2 then s₁.clearError else s₁

/-- The interrupt output: a level, with no latch (10_state.md R43; 60_exceptions.md R334). -/
def State.irq (s : State) : Bool := (s.done && s.doneIe) || (s.err && s.errIe)

end Sys2Proof.Machine
end

