-- ==== Sys2Proof/Machine/Bus.lean ====
section
/-! DEFINITION. Host accesses to the register block: the register map, the slot window, byte order, narrow and misaligned accesses,
held accesses, and how an access comes from the host's address space to the block (20_memory.md; 10_state.md R30 to R38). -/

namespace Sys2Proof.Machine

/-- The first offset of the slot window (10_state.md R30; 20_memory.md R64). -/
abbrev windowBase : Nat := 0x1000

/-- The slot whose limb an offset of the slot window names (20_memory.md R64). -/
def windowSlot (off : Nat) : Nat := (off - windowBase) / 48

/-- The limb that an 8-byte aligned offset of the slot window names (20_memory.md R64). -/
def windowLimb (off : Nat) : Nat := (off - windowBase) % 48 / 8

/-- What an aligned 8-byte read returns (10_state.md R30; 20_memory.md R64). CMD, ENTROPY and the reserved offsets read 0. -/
def State.busRead (s : State) (off : Nat) : Word :=
  if windowBase ≤ off then limbOf (s.slot (windowSlot off)) (windowLimb off)
  else
    match off with
    | 0x000 => idWord
    | 0x008 => s.ctrlWord
    | 0x010 => s.statusWord
    | 0x020 => s.errinfo
    | 0x030 => s.entLevelWord
    | _ => 0

/-- What an aligned 8-byte write does (10_state.md R30; 20_memory.md R64, R65). Writes to ID, ERRINFO, ENTLEVEL and the reserved
offsets are ignored. -/
def State.busWrite (s : State) (off : Nat) (v : Word) : State :=
  if windowBase ≤ off then
    s.setSlot (windowSlot off) (setLimbOf (s.slot (windowSlot off)) (windowLimb off) v)
  else
    match off with
    | 0x008 => s.writeCtrl v
    | 0x010 => s.writeStatus v
    | 0x018 => s.accept v
    | 0x028 => s.pushEntropy v
    | _ => s

/-- The byte at an offset of the block, as the little-endian block lays out its registers and slots (20_memory.md R61). A view
for statements: no access reads a single byte (R62). -/
def State.blockByte (s : State) (off : Nat) : Byte :=
  (s.busRead (off - off % 8)).extractLsb' (8 * (off % 8)) 8

/-- The offset of an access. -/
def Access.off : Access → Nat
  | .read off _ => off
  | .write off _ _ => off

/-- The width of an access in bytes. -/
def Access.width : Access → Nat
  | .read _ width => width
  | .write _ width _ => width

/-- The block performs an access only if it is 8 bytes wide and 8-byte aligned (20_memory.md R62). -/
def Access.proper (x : Access) : Bool := x.width == 8 && x.off % 8 == 0

/-- Whether the block holds an access while a command runs (20_memory.md R66): every access to the slot window, every write to CMD,
ENTROPY, CTRL or STATUS, and every access that is not proper. The proper reads below the window are not held, and neither are the
proper writes there that R66 does not list, which change nothing (log entry 20). -/
def Access.held : Access → Bool
  | .read off width => !((Access.read off width).proper && decide (off < windowBase))
  | .write off width v =>
    !((Access.write off width v).proper && decide (off < windowBase)) || [0x008, 0x010, 0x018, 0x028].contains off

/-- The oldest access that is not held, and the others in their order (20_memory.md R66). -/
def takeUnheld : List Access → Option (Access × List Access)
  | [] => none
  | x :: xs =>
    if x.held then
      match takeUnheld xs with
      | none => none
      | some (y, ys) => some (y, x :: ys)
    else some (x, xs)

/-- An access is performed (20_memory.md R62 to R65): a proper read returns its register on the bus, a proper write writes it;
any other access is not performed, reads 0 and records ACCESS. An access outside the block does not reach the core (R67):
the model stops (log entry 11). -/
def performAccess (x : Access) (s : State) : Outcome :=
  if Config.blockSize ≤ x.off then .fault .outsideBlock
  else
    match x with
    | .read off _ =>
      if x.proper then .next { s with rdata := s.busRead off }
      else .next { s.accessError off with rdata := 0 }
    | .write off _ v =>
      if x.proper then .next (s.busWrite off v)
      else .next (s.accessError off)

/-! ### How accesses arrive -/

/-- The offset of a host address in the block, or none for an address the block does not see (20_memory.md R67). -/
def blockOffset (addr : Nat) : Option Nat :=
  if Config.base ≤ addr ∧ addr < Config.base + Config.blockSize then some (addr - Config.base) else none

/-- The parts in which an access of `width` bytes at host address `addr` leaves the platform's bus, each with its address, its
width and its number: one part, or 8-byte beats where the bus splits wide accesses (20_memory.md R62; log entry 5). -/
def busParts (addr width : Nat) : List (Nat × Nat × Nat) :=
  if Config.busSplits && decide (8 < width) && width % 8 == 0 then
    (List.range (width / 8)).map fun k => (addr + 8 * k, 8, k)
  else [(addr, width, 0)]

/-- The accesses that the block sees of a host access: the parts whose address is in the block, each at its offset, so that the beats
of a split access that lie in the block arrive wherever it starts (20_memory.md R62, R67; log entries 5 and 11). `mk off width k` is
part number `k`. -/
def beats (addr width : Nat) (mk : Nat → Nat → Nat → Access) : List Access :=
  (busParts addr width).filterMap fun p => (blockOffset p.1).map fun off => mk off p.2.1 p.2.2

/-- A host read of `width` bytes at a host address arrives (20_memory.md R60, R69). -/
def State.hostRead (s : State) (addr width : Nat) : State :=
  { s with pending := s.pending ++ beats addr width fun off n _ => .read off n }

/-- A host write of `width` bytes at a host address arrives; `v` is the written value, little-endian (20_memory.md R60, R61,
R69). -/
def State.hostWrite (s : State) (addr width v : Nat) : State :=
  { s with pending := s.pending ++ beats addr width fun off n k => .write off n (BitVec.ofNat 64 (v / 2 ^ (64 * k))) }

end Sys2Proof.Machine
end

