-- ==== Sys2Proof/Machine/Field.lean ====
section
/-! DEFINITION. The prime fields Fq and Fr as exact arithmetic modulo q and r (00_scope.md R16; 41_field_fq_fr.md R143), their
Montgomery slot words (10_state.md R22, R23), and exponentiation (41_field_fq_fr.md R150). -/

namespace Sys2Proof.Machine

/-- The operations that the formulas of the spec use on field values; every level of the tower provides them. -/
class FieldOps (F : Type) extends Add F, Sub F, Mul F, Neg F, Zero F, One F where
  /-- The field inverse, used on non-zero values only. -/
  inv : F → F

/-- 2·x means x + x (43_groups.md R240). -/
def twice {F : Type} [Add F] (x : F) : F := x + x

/-- 3·x means x + x + x (43_groups.md R240). -/
def thrice {F : Type} [Add F] (x : F) : F := x + x + x

/-- x^2. -/
def sqr {F : Type} [Mul F] (x : F) : F := x * x

/-- bitlen(n), the least L with n < 2^L (00_scope.md R14). -/
def bitlen (n : Nat) : Nat := if n = 0 then 0 else n.log2 + 1

/-- Left-to-right square-and-multiply over the lowest `b` bits of `e`, most significant first (41_field_fq_fr.md R150). -/
def expLoop {F : Type} [Mul F] (x : F) (e : Nat) (acc : F) : Nat → F
  | 0 => acc
  | b + 1 => expLoop x e (if e.testBit b then sqr acc * x else sqr acc) b

/-- x^e, with x^0 = 1 for every x (41_field_fq_fr.md R150; 42_tower.md R220). -/
def expInt {F : Type} [Mul F] [One F] (x : F) (e : Nat) : F := expLoop x e 1 (bitlen e)

/-! ### Fq and Fr -/

/-- Fq, the integers modulo q (00_scope.md R9). -/
abbrev Fq := Fin Config.q

/-- Fr, the integers modulo r (00_scope.md R10). -/
abbrev Fr := Fin Config.r

/-- The inverse of a non-zero Fq element, a^(q-2) (41_field_fq_fr.md R151). -/
def fqInverse (a : Fq) : Fq := expInt a (Config.q - 2)

/-- The inverse of a non-zero Fr element, a^(r-2) (41_field_fq_fr.md R164). -/
def frInverse (a : Fr) : Fr := expInt a (Config.r - 2)

/-- Fq as a field for the formulas. -/
abbrev fqOps : FieldOps Fq where
  add := fun a b => a + b
  sub := fun a b => a - b
  mul := fun a b => a * b
  neg := fun a => -a
  zero := 0
  one := 1
  inv := fqInverse

/-! ### Montgomery words -/

/-- R^-1 mod q, the constant that undoes the Montgomery scale of Fq. DEDUCED from R = 2^384 and q (log entry 15). -/
def radixQInv : Nat :=
  0x14fec701e8fb0ce9ed5e64273c4f538b1797ab1458a88de9343ea97914956dc87fe11274d898fafbf4d38259380b4820

/-- R'^-1 mod r, the constant that undoes the Montgomery scale of Fr. DEDUCED from R' = 2^256 and r (log entry 15). -/
def radixRInv : Nat := 0x1bbe869330009d577204078a4f77266aab6fca8f09dc705f13f75b69fe75c040

/-- The Fq value of a canonical slot word: (w * R^-1) mod q (10_state.md R22). -/
def fqOfWord (w : SlotWord) : Fq := Fin.ofNat Config.q (w.toNat * radixQInv)

/-- The slot word of an Fq value: (x * R) mod q (10_state.md R22). -/
def fqToWord (x : Fq) : SlotWord := BitVec.ofNat 384 (x.val * Config.radixQ % Config.q)

/-- The Fr value of a canonical slot word: (w * R'^-1) mod r (10_state.md R23). -/
def frOfWord (w : SlotWord) : Fr := Fin.ofNat Config.r (w.toNat * radixRInv)

/-- The slot word of an Fr value: (x * R') mod r, limbs 4 and 5 zero (10_state.md R23). -/
def frToWord (x : Fr) : SlotWord := BitVec.ofNat 384 (x.val * Config.radixR % Config.r)

end Sys2Proof.Machine
end

