-- ==== Sys2Proof/Machine/Tower.lean ====
section
/-! DEFINITION. The extension tower Fq2 = Fq[i]/(i^2+1), Fq6 = Fq2[y]/(y^3 - xi), Fq12 = Fq6[w]/(w^2 - y) and its value laws
(00_scope.md R13; 42_tower.md R180 to R183). The products are the reductions R180 names, written out; a different formula with
the same value is the same command (00_scope.md R18). Log entry 16. -/

namespace Sys2Proof.Machine

/-- c0 + c1·i (10_state.md R24). -/
structure Fq2 where
  c0 : Fq
  c1 : Fq
  deriving DecidableEq, Repr

/-- c0 + c1·y + c2·y^2 (10_state.md R24). -/
structure Fq6 where
  c0 : Fq2
  c1 : Fq2
  c2 : Fq2
  deriving DecidableEq, Repr

/-- c0 + c1·w (10_state.md R24). -/
structure Fq12 where
  c0 : Fq6
  c1 : Fq6
  deriving DecidableEq, Repr

/-! ### Fq2 -/

/-- Fq2 addition (42_tower.md R190). -/
def Fq2.add (a b : Fq2) : Fq2 := ⟨a.c0 + b.c0, a.c1 + b.c1⟩

/-- Fq2 subtraction (42_tower.md R191). -/
def Fq2.sub (a b : Fq2) : Fq2 := ⟨a.c0 - b.c0, a.c1 - b.c1⟩

/-- Fq2 negation (42_tower.md R192). -/
def Fq2.neg (a : Fq2) : Fq2 := ⟨-a.c0, -a.c1⟩

/-- Fq2 multiplication by the source's formula (42_tower.md R180, R193). -/
def Fq2.mul (a b : Fq2) : Fq2 :=
  let v0 := a.c0 * b.c0
  let v1 := a.c1 * b.c1
  ⟨v0 - v1, (a.c0 + a.c1) * (b.c0 + b.c1) - v0 - v1⟩

/-- The zero of Fq2. -/
def Fq2.zero : Fq2 := ⟨0, 0⟩

/-- The one of Fq2. -/
def Fq2.one : Fq2 := ⟨1, 0⟩

/-- The inverse of a non-zero Fq2 element: t = (a0^2 + a1^2)^-1, (a0·t, -a1·t) (42_tower.md R183, R195). -/
def Fq2.inverse (a : Fq2) : Fq2 :=
  let t := fqInverse (a.c0 * a.c0 + a.c1 * a.c1)
  ⟨a.c0 * t, -(a.c1 * t)⟩

/-- Fq2 conjugation, c0 - c1·i (42_tower.md R196). -/
def Fq2.conj (a : Fq2) : Fq2 := ⟨a.c0, -a.c1⟩

/-- MulXi: multiplication by xi = 1 + i (42_tower.md R180, R197). -/
def Fq2.mulXi (a : Fq2) : Fq2 := ⟨a.c0 - a.c1, a.c0 + a.c1⟩

/-- Fq2 times Fq, coefficient by coefficient (45_pairing.md R300). -/
def Fq2.scale (a : Fq2) (k : Fq) : Fq2 := ⟨a.c0 * k, a.c1 * k⟩

/-- Fq2 as a field for the formulas. -/
abbrev fq2Ops : FieldOps Fq2 where
  add := Fq2.add
  sub := Fq2.sub
  mul := Fq2.mul
  neg := Fq2.neg
  zero := Fq2.zero
  one := Fq2.one
  inv := Fq2.inverse

/-! ### Fq6 -/

/-- Fq6 addition (42_tower.md R200). -/
def Fq6.add (a b : Fq6) : Fq6 := ⟨a.c0.add b.c0, a.c1.add b.c1, a.c2.add b.c2⟩

/-- Fq6 subtraction (42_tower.md R201). -/
def Fq6.sub (a b : Fq6) : Fq6 := ⟨a.c0.sub b.c0, a.c1.sub b.c1, a.c2.sub b.c2⟩

/-- Fq6 negation (42_tower.md R202). -/
def Fq6.neg (a : Fq6) : Fq6 := ⟨a.c0.neg, a.c1.neg, a.c2.neg⟩

/-- Fq6 multiplication, reduced by y^3 = xi (42_tower.md R180, R203). -/
def Fq6.mul (a b : Fq6) : Fq6 :=
  letI := fq2Ops
  ⟨a.c0 * b.c0 + Fq2.mulXi (a.c1 * b.c2 + a.c2 * b.c1),
   a.c0 * b.c1 + a.c1 * b.c0 + Fq2.mulXi (a.c2 * b.c2),
   a.c0 * b.c2 + a.c1 * b.c1 + a.c2 * b.c0⟩

/-- The zero of Fq6. -/
def Fq6.zero : Fq6 := ⟨Fq2.zero, Fq2.zero, Fq2.zero⟩

/-- The one of Fq6. -/
def Fq6.one : Fq6 := ⟨Fq2.one, Fq2.zero, Fq2.zero⟩

/-- MULNR: multiplication by y, (xi·a2, a0, a1) (42_tower.md R180, R206). -/
def Fq6.mulNr (a : Fq6) : Fq6 := ⟨a.c2.mulXi, a.c0, a.c1⟩

/-- Fq6 times Fq2, coefficient by coefficient (42_tower.md R182). -/
def Fq6.scale (a : Fq6) (k : Fq2) : Fq6 := ⟨a.c0.mul k, a.c1.mul k, a.c2.mul k⟩

/-- The inverse of a non-zero Fq6 element through its norm to Fq2 (42_tower.md R183, R205). -/
def Fq6.inverse (a : Fq6) : Fq6 :=
  letI := fq2Ops
  let t0 := sqr a.c0 - Fq2.mulXi (a.c1 * a.c2)
  let t1 := Fq2.mulXi (sqr a.c2) - a.c0 * a.c1
  let t2 := sqr a.c1 - a.c0 * a.c2
  let n := a.c0 * t0 + Fq2.mulXi (a.c2 * t1 + a.c1 * t2)
  let ni := Fq2.inverse n
  ⟨t0 * ni, t1 * ni, t2 * ni⟩

/-- Fq6 as a field for the formulas. -/
abbrev fq6Ops : FieldOps Fq6 where
  add := Fq6.add
  sub := Fq6.sub
  mul := Fq6.mul
  neg := Fq6.neg
  zero := Fq6.zero
  one := Fq6.one
  inv := Fq6.inverse

/-! ### Fq12 -/

/-- Fq12 addition (42_tower.md R210). -/
def Fq12.add (a b : Fq12) : Fq12 := ⟨a.c0.add b.c0, a.c1.add b.c1⟩

/-- Fq12 subtraction (42_tower.md R211). -/
def Fq12.sub (a b : Fq12) : Fq12 := ⟨a.c0.sub b.c0, a.c1.sub b.c1⟩

/-- Fq12 negation (42_tower.md R212). -/
def Fq12.neg (a : Fq12) : Fq12 := ⟨a.c0.neg, a.c1.neg⟩

/-- Fq12 multiplication, reduced by w^2 = y (42_tower.md R180, R213). -/
def Fq12.mul (a b : Fq12) : Fq12 :=
  letI := fq6Ops
  ⟨a.c0 * b.c0 + Fq6.mulNr (a.c1 * b.c1), a.c0 * b.c1 + a.c1 * b.c0⟩

/-- The zero of Fq12. -/
def Fq12.zero : Fq12 := ⟨Fq6.zero, Fq6.zero⟩

/-- The one of Fq12. -/
def Fq12.one : Fq12 := ⟨Fq6.one, Fq6.zero⟩

/-- Fq12 conjugation over Fq6 (42_tower.md R216). -/
def Fq12.conj (a : Fq12) : Fq12 := ⟨a.c0, a.c1.neg⟩

/-- The inverse of a non-zero Fq12 element by the norm method, N = a0^2 - y·a1^2 (42_tower.md R215; 90_conflicts.md C2). -/
def Fq12.inverse (a : Fq12) : Fq12 :=
  letI := fq6Ops
  let ni := Fq6.inverse (sqr a.c0 - Fq6.mulNr (sqr a.c1))
  ⟨a.c0 * ni, -(a.c1 * ni)⟩

/-- Fq12 as a field for the formulas. -/
abbrev fq12Ops : FieldOps Fq12 where
  add := Fq12.add
  sub := Fq12.sub
  mul := Fq12.mul
  neg := Fq12.neg
  zero := Fq12.zero
  one := Fq12.one
  inv := Fq12.inverse

/-- a^2 in Fq2 (42_tower.md R194). -/
def Fq2.square (a : Fq2) : Fq2 := a.mul a

/-- a^2 in Fq6 (42_tower.md R204). -/
def Fq6.square (a : Fq6) : Fq6 := a.mul a

/-- a^2 in Fq12 (42_tower.md R214). -/
def Fq12.square (a : Fq12) : Fq12 := a.mul a

/-- x^e in Fq12 (42_tower.md R220). -/
def Fq12.exp (a : Fq12) (e : Nat) : Fq12 :=
  letI := fq12Ops
  expInt a e

/-! ### Sparse operands -/

/-- The Fq6 element b0 + b1·y of an SP6 operand (30_encoding.md R98; 42_tower.md R207). -/
def sparse01 (b0 b1 : Fq2) : Fq6 := ⟨b0, b1, Fq2.zero⟩

/-- The Fq12 element (l0 + l1·y) + (l4·y)·w of an SP12 operand (30_encoding.md R98; 42_tower.md R217; 45_pairing.md R302). -/
def sparse014 (l0 l1 l4 : Fq2) : Fq12 := ⟨⟨l0, l1, Fq2.zero⟩, ⟨Fq2.zero, l4, Fq2.zero⟩⟩

end Sys2Proof.Machine
end

