-- ==== Sys2Proof/Machine/Curve.lean ====
section
/-! DEFINITION. The Jacobian point functions of 43_groups.md R240 to R244, the same for G1 (coordinates in Fq) and G2 (coordinates
in Fq2). They fix raw coordinates, not only points. -/

namespace Sys2Proof.Machine

/-- Jacobian coordinates (X, Y, Z) of the affine point (X/Z^2, Y/Z^3); the identity is any point with Z = 0
(10_state.md R25; 43_groups.md R242). The fourth G2 coordinate T = Z^2 is made when a point is written (10_state.md R26). -/
structure Jac (F : Type) where
  x : F
  y : F
  z : F
  deriving DecidableEq, Repr

/-- A G1 point (10_state.md R25). -/
abbrev G1 := Jac Fq

/-- A G2 point (10_state.md R26). -/
abbrev G2 := Jac Fq2

section
variable {F : Type} [FieldOps F] [DecidableEq F]

/-- Ident = (1, 1, 0), the identity a command produces from nothing (43_groups.md R242). -/
def jacIdent : Jac F := ⟨1, 1, 0⟩

/-- Dbl, dbl-2009-l (43_groups.md R240). -/
def jacDbl (P : Jac F) : Jac F :=
  let A := sqr P.x
  let B := sqr P.y
  let C := sqr B
  let D := twice (sqr (P.x + B) - A - C)
  let E := thrice A
  let G := sqr E
  let X3 := G - twice D
  ⟨X3, E * (D - X3) - twice (twice (twice C)), twice (P.y * P.z)⟩

/-- Add, add-2007-bl with the identity branches and the equal-point check (43_groups.md R240, R243). -/
def jacAdd (P₁ P₂ : Jac F) : Jac F :=
  if P₁.z = 0 then P₂
  else if P₂.z = 0 then P₁
  else
    let Z1Z1 := sqr P₁.z
    let Z2Z2 := sqr P₂.z
    let U1 := P₁.x * Z2Z2
    let U2 := P₂.x * Z1Z1
    let S1 := P₁.y * P₂.z * Z2Z2
    let S2 := P₂.y * P₁.z * Z1Z1
    let H := U2 - U1
    let rr := twice (S2 - S1)
    if H = 0 ∧ rr = 0 then jacDbl P₁
    else
      let I := sqr (twice H)
      let J := H * I
      let V := U1 * I
      let X3 := sqr rr - J - twice V
      ⟨X3, rr * (V - X3) - twice (S1 * J), (sqr (P₁.z + P₂.z) - Z1Z1 - Z2Z2) * H⟩

/-- Neg (43_groups.md R240). -/
def jacNeg (P : Jac F) : Jac F := ⟨P.x, -P.y, P.z⟩

/-- Aff, for Z ≠ 0: (X·Z^-2, Y·Z^-3) (43_groups.md R240). -/
def jacAff (P : Jac F) : F × F :=
  let zi := FieldOps.inv P.z
  (P.x * sqr zi, P.y * (sqr zi * zi))

/-- PEq: cross-multiplication, with the identity branch (43_groups.md R240, R256; 90_conflicts.md C8). -/
def jacEq (P₁ P₂ : Jac F) : Bool :=
  if P₁.z = 0 ∨ P₂.z = 0 then decide (P₁.z = 0 ∧ P₂.z = 0)
  else
    decide (P₁.x * sqr P₂.z = P₂.x * sqr P₁.z ∧
      P₁.y * (sqr P₂.z * P₂.z) = P₂.y * (sqr P₁.z * P₁.z))

/-- The loop of SMul over the lowest `b` bits of `k`, most significant first (43_groups.md R240). -/
def smulLoop (P : Jac F) (k : Nat) (acc : Jac F) : Nat → Jac F
  | 0 => acc
  | b + 1 => smulLoop P k (if k.testBit b then jacAdd (jacDbl acc) P else jacDbl acc) b

/-- SMul(P, k): binary double-and-add from the identity, with no reduction of k (43_groups.md R240, R245). -/
def jacSmul (P : Jac F) (k : Nat) : Jac F := smulLoop P k jacIdent (bitlen k)

/-- The additions of one bit position of MultiMul, in increasing index (43_groups.md R244). -/
def multiAdd (b : Nat) (acc : Jac F) : List (Jac F × Nat) → Jac F
  | [] => acc
  | (Q, a) :: rest => multiAdd b (if a.testBit b then jacAdd acc Q else acc) rest

/-- The loop of MultiMul over the lowest `b` bit positions: one doubling, then the additions (43_groups.md R244). -/
def multiLoop (qs : List (Jac F × Nat)) (acc : Jac F) : Nat → Jac F
  | 0 => acc
  | b + 1 => multiLoop qs (multiAdd b (jacDbl acc) qs) b

/-- MultiMul over points with signed coefficients (43_groups.md R244). -/
def multiMul (pk : List (Jac F × Int)) : Jac F :=
  let qs := pk.map fun p => (if 0 ≤ p.2 then p.1 else jacNeg p.1, p.2.natAbs)
  multiLoop qs jacIdent (qs.foldl (fun L p => max L (bitlen p.2)) 0)

end

end Sys2Proof.Machine
end

