-- ==== Sys2Proof/Machine/Rom.lean ====
section
/-! DEFINITION. The constant ROM (10_state.md R40): the Montgomery constants, the Frobenius tables, the generators, the endomorphism constants, the lattice
bases, and the constants LDC loads. All values are the spec's. No command, access or reset changes them. -/

namespace Sys2Proof.Machine

/-! ### Montgomery constants (41_field_fq_fr.md R140)

The moduli q and r are `Config.q` and `Config.r`. The views of Machine/Field.lean give the values these constants serve to compute;
the spec makes only the value normative. -/

/-- m' = -q^-1 mod 2^64 (41_field_fq_fr.md R140). -/
def montPrimeQ : Word := 0x89f3fffcfffcfffd

/-- m' = -r^-1 mod 2^64 (41_field_fq_fr.md R140). -/
def montPrimeR : Word := 0xfffffffeffffffff

/-- R mod q, the Montgomery one of Fq (41_field_fq_fr.md R140). -/
def montOneQ : SlotWord :=
  0x15f65ec3fa80e4935c071a97a256ec6d77ce5853705257455f48985753c758baebf4000bc40c0002760900000002fffd

/-- R' mod r, the Montgomery one of Fr (41_field_fq_fr.md R140). -/
def montOneR : SlotWord := 0x1824b159acc5056f998c4fefecbc4ff55884b7fa0003480200000001fffffffe

/-- R^2 mod q, the factor that encodes an integer in Fq (41_field_fq_fr.md R140, R142). -/
def montSquareQ : SlotWord :=
  0x11988fe592cae3aa9a793e85b519952d67eb88a9939d83c08de5476c4c95b6d50a76e6a609d104f1f4df1f341c341746

/-- R'^2 mod r, the factor that encodes an integer in Fr (41_field_fq_fr.md R140, R142). -/
def montSquareR : SlotWord := 0x0748d9d99f59ff1105d314967254398f2b6cedcb87925c23c999e990f3f29c6d

/-! ### Frobenius tables (42_tower.md R181) -/

/-- gamma6,1[j] = xi^((q^j - 1)/3), for j from 0 to 5 (42_tower.md R181). -/
def gamma61 : Nat → Fq2
  | 0 => ⟨1, 0⟩
  | 1 => ⟨0, 0x1a0111ea397fe699ec02408663d4de85aa0d857d89759ad4897d29650fb85f9b409427eb4f49fffd8bfd00000000aaac⟩
  | 2 => ⟨0x00000000000000005f19672fdf76ce51ba69c6076a0f77eaddb3a93be6f89688de17d813620a00022e01fffffffefffe, 0⟩
  | 3 => ⟨0, 1⟩
  | 4 => ⟨0x1a0111ea397fe699ec02408663d4de85aa0d857d89759ad4897d29650fb85f9b409427eb4f49fffd8bfd00000000aaac, 0⟩
  | _ => ⟨0, 0x00000000000000005f19672fdf76ce51ba69c6076a0f77eaddb3a93be6f89688de17d813620a00022e01fffffffefffe⟩

/-- gamma6,2[j] = xi^(2(q^j - 1)/3), for j from 0 to 5 (42_tower.md R181). -/
def gamma62 : Nat → Fq2
  | 0 => ⟨1, 0⟩
  | 1 => ⟨0x1a0111ea397fe699ec02408663d4de85aa0d857d89759ad4897d29650fb85f9b409427eb4f49fffd8bfd00000000aaad, 0⟩
  | 2 => ⟨0x1a0111ea397fe699ec02408663d4de85aa0d857d89759ad4897d29650fb85f9b409427eb4f49fffd8bfd00000000aaac, 0⟩
  | 3 => ⟨-1, 0⟩
  | 4 => ⟨0x00000000000000005f19672fdf76ce51ba69c6076a0f77eaddb3a93be6f89688de17d813620a00022e01fffffffefffe, 0⟩
  | _ => ⟨0x00000000000000005f19672fdf76ce51ba69c6076a0f77eaddb3a93be6f89688de17d813620a00022e01fffffffeffff, 0⟩

/-- gamma12[j] = xi^((q^j - 1)/6), for j from 0 to 11 (42_tower.md R181). -/
def gamma12 : Nat → Fq2
  | 0 => ⟨1, 0⟩
  | 1 => ⟨0x1904d3bf02bb0667c231beb4202c0d1f0fd603fd3cbd5f4f7b2443d784bab9c4f67ea53d63e7813d8d0775ed92235fb8, 0x00fc3e2b36c4e03288e9e902231f9fb854a14787b6c7b36fec0c8ec971f63c5f282d5ac14d6c7ec22cf78a126ddc4af3⟩
  | 2 => ⟨0x00000000000000005f19672fdf76ce51ba69c6076a0f77eaddb3a93be6f89688de17d813620a00022e01fffffffeffff, 0⟩
  | 3 => ⟨0x135203e60180a68ee2e9c448d77a2cd91c3dedd930b1cf60ef396489f61eb45e304466cf3e67fa0af1ee7b04121bdea2, 0x06af0e0437ff400b6831e36d6bd17ffe48395dabc2d3435e77f76e17009241c5ee67992f72ec05f4c81084fbede3cc09⟩
  | 4 => ⟨0x00000000000000005f19672fdf76ce51ba69c6076a0f77eaddb3a93be6f89688de17d813620a00022e01fffffffefffe, 0⟩
  | 5 => ⟨0x144e4211384586c16bd3ad4afa99cc9170df3560e77982d0db45f3536814f0bd5871c1908bd478cd1ee605167ff82995, 0x05b2cfd9013a5fd8df47fa6b48b1e045f39816240c0b8fee8beadf4d8e9c0566c63a3e6e257f87329b18fae980078116⟩
  | 6 => ⟨-1, 0⟩
  | 7 => ⟨0x00fc3e2b36c4e03288e9e902231f9fb854a14787b6c7b36fec0c8ec971f63c5f282d5ac14d6c7ec22cf78a126ddc4af3, 0x1904d3bf02bb0667c231beb4202c0d1f0fd603fd3cbd5f4f7b2443d784bab9c4f67ea53d63e7813d8d0775ed92235fb8⟩
  | 8 => ⟨0x1a0111ea397fe699ec02408663d4de85aa0d857d89759ad4897d29650fb85f9b409427eb4f49fffd8bfd00000000aaac, 0⟩
  | 9 => ⟨0x06af0e0437ff400b6831e36d6bd17ffe48395dabc2d3435e77f76e17009241c5ee67992f72ec05f4c81084fbede3cc09, 0x135203e60180a68ee2e9c448d77a2cd91c3dedd930b1cf60ef396489f61eb45e304466cf3e67fa0af1ee7b04121bdea2⟩
  | 10 => ⟨0x1a0111ea397fe699ec02408663d4de85aa0d857d89759ad4897d29650fb85f9b409427eb4f49fffd8bfd00000000aaad, 0⟩
  | _ => ⟨0x05b2cfd9013a5fd8df47fa6b48b1e045f39816240c0b8fee8beadf4d8e9c0566c63a3e6e257f87329b18fae980078116, 0x144e4211384586c16bd3ad4afa99cc9170df3560e77982d0db45f3536814f0bd5871c1908bd478cd1ee605167ff82995⟩

/-! ### Generators (40_control.md R131) and endomorphism constants (43_groups.md R241) -/

/-- The G1 generator, Z = 1 (40_control.md R131, G1_GEN). -/
def g1Gen : G1 where
  x := 0x17f1d3a73197d7942695638c4fa9ac0fc3688c4f9774b905a14e3a3f171bac586c55e83ff97a1aeffb3af00adb22c6bb
  y := 0x08b3f481e3aaa0f1a09e30ed741d8ae4fcf5e095d5d00af600db18cb2c04b3edd03cc744a2888ae40caa232946c5e7e1
  z := 1

/-- The G2 generator, Z = 1 (40_control.md R131, G2_GEN). -/
def g2Gen : G2 where
  x := ⟨0x024aa2b2f08f0a91260805272dc51051c6e47ad4fa403b02b4510b647ae3d1770bac0326a805bbefd48056c8c121bdb8,
        0x13e02b6052719f607dacd3a088274f65596bd0d09920b61ab5da61bbdc7f5049334cf11213945d57e5ac7d055d042b7e⟩
  y := ⟨0x0ce5d527727d6e118cc9cdc6da2e351aadfd9baa8cbdd3a76d429a695160d12c923ac9cc3baca289e193548608b82801,
        0x0606c4a02ea734cc32acd2b02bc28b99cb3e287e85a763af267492ab572e99ab3f370d275cec1da1aaa9075ff05f79be⟩
  z := Fq2.one

/-- beta, a primitive cube root of unity in Fq (43_groups.md R241). -/
def beta : Fq :=
  0x1a0111ea397fe699ec02408663d4de85aa0d857d89759ad4897d29650fb85f9b409427eb4f49fffd8bfd00000000aaac

/-- cx = xi^-((q-1)/3) (43_groups.md R241). -/
def psiCx : Fq2 :=
  ⟨0, 0x1a0111ea397fe699ec02408663d4de85aa0d857d89759ad4897d29650fb85f9b409427eb4f49fffd8bfd00000000aaad⟩

/-- cy = xi^-((q-1)/2) (43_groups.md R241). -/
def psiCy : Fq2 :=
  ⟨0x135203e60180a68ee2e9c448d77a2cd91c3dedd930b1cf60ef396489f61eb45e304466cf3e67fa0af1ee7b04121bdea2,
   0x06af0e0437ff400b6831e36d6bd17ffe48395dabc2d3435e77f76e17009241c5ee67992f72ec05f4c81084fbede3cc09⟩

/-- xi = 1 + i (00_scope.md R13; 40_control.md R131). -/
def xi : Fq2 := ⟨1, 1⟩

/-! ### Lattices (44_lattice.md R290) -/

/-- A decomposition lattice: the rows of its basis B and the first row w of the adjugate of B (44_lattice.md R290). -/
structure Lattice where
  basis : List (List Int)
  adj : List Int

/-- LAT1, the two-dimensional GLV lattice of G1 (44_lattice.md R290). -/
def lat1 : Lattice where
  basis := [[Config.u ^ 2 - 1, -1], [1, Config.u ^ 2]]
  adj := [Config.u ^ 2, 1]

/-- LAT2, the four-dimensional GLS lattice of G2 (44_lattice.md R290). -/
def lat2 : Lattice where
  basis := [[Config.u, -1, 0, 0], [0, Config.u, -1, 0], [0, 0, Config.u, -1], [1, 0, -1, Config.u]]
  adj := [Config.u * (Config.u ^ 2 - 1), Config.u ^ 2 - 1, Config.u, 1]

/-- lambda1 = u^2 - 1, the eigenvalue of Endo on G1 (43_groups.md R241). -/
def lambda1 : Int := Config.u ^ 2 - 1

/-- lambda2 = u mod r, the eigenvalue of Psi on G2 (43_groups.md R241). -/
def lambda2 : Int := Config.u % (Config.r : Int)

end Sys2Proof.Machine
end

