-- ==== Sys2Proof/Machine/Frobenius.lean ====
section
/-! DEFINITION. The Frobenius maps (42_tower.md R182) and the curve endomorphisms (43_groups.md R241), which scale by ROM
constants, and the points and point functions of G1 and G2 by name. -/

namespace Sys2Proof.Machine

/-- Frob2 (42_tower.md R182). -/
def Fq2.frob (a : Fq2) (k : Nat) : Fq2 := if k % 2 = 0 then a else a.conj

/-- Frob6 (42_tower.md R182; 90_conflicts.md C4). -/
def Fq6.frob (a : Fq6) (k : Nat) : Fq6 :=
  let j := k % 6
  ⟨a.c0.frob j, (a.c1.frob j).mul (gamma61 j), (a.c2.frob j).mul (gamma62 j)⟩

/-- Frob12 (42_tower.md R182). -/
def Fq12.frob (a : Fq12) (k : Nat) : Fq12 :=
  let j := k % 12
  ⟨a.c0.frob j, (a.c1.frob j).scale (gamma12 j)⟩

/-! ### The point functions of R240 at G1 and G2 -/

/-- Ident of G1 (43_groups.md R242). -/
def g1Ident : G1 := letI := fqOps; jacIdent
/-- Dbl on G1 (43_groups.md R240). -/
def g1Dbl (P : G1) : G1 := letI := fqOps; jacDbl P
/-- Add on G1 (43_groups.md R240). -/
def g1Add (P₁ P₂ : G1) : G1 := letI := fqOps; jacAdd P₁ P₂
/-- Neg on G1 (43_groups.md R240). -/
def g1Neg (P : G1) : G1 := letI := fqOps; jacNeg P
/-- Aff on G1 (43_groups.md R240). -/
def g1Aff (P : G1) : Fq × Fq := letI := fqOps; jacAff P
/-- PEq on G1 (43_groups.md R240). -/
def g1PEq (P₁ P₂ : G1) : Bool := letI := fqOps; jacEq P₁ P₂
/-- SMul on G1 (43_groups.md R240). -/
def g1SMul (P : G1) (k : Nat) : G1 := letI := fqOps; jacSmul P k
/-- MultiMul on G1 (43_groups.md R244). -/
def g1MultiMul (pk : List (G1 × Int)) : G1 := letI := fqOps; multiMul pk

/-- Ident of G2 (43_groups.md R242). -/
def g2Ident : G2 := letI := fq2Ops; jacIdent
/-- Dbl on G2 (43_groups.md R240). -/
def g2Dbl (P : G2) : G2 := letI := fq2Ops; jacDbl P
/-- Add on G2 (43_groups.md R240). -/
def g2Add (P₁ P₂ : G2) : G2 := letI := fq2Ops; jacAdd P₁ P₂
/-- Neg on G2 (43_groups.md R240). -/
def g2Neg (P : G2) : G2 := letI := fq2Ops; jacNeg P
/-- Aff on G2 (43_groups.md R240). -/
def g2Aff (P : G2) : Fq2 × Fq2 := letI := fq2Ops; jacAff P
/-- PEq on G2 (43_groups.md R240). -/
def g2PEq (P₁ P₂ : G2) : Bool := letI := fq2Ops; jacEq P₁ P₂
/-- SMul on G2 (43_groups.md R240). -/
def g2SMul (P : G2) (k : Nat) : G2 := letI := fq2Ops; jacSmul P k
/-- MultiMul on G2 (43_groups.md R244). -/
def g2MultiMul (pk : List (G2 × Int)) : G2 := letI := fq2Ops; multiMul pk

/-! ### Endomorphisms (43_groups.md R241) -/

/-- Endo on G1: (beta·X, Y, Z). -/
def endo (P : G1) : G1 := ⟨beta * P.x, P.y, P.z⟩

/-- Psi on G2: (conj(X)·cx, conj(Y)·cy, conj(Z)). -/
def psi (P : G2) : G2 := ⟨P.x.conj.mul psiCx, P.y.conj.mul psiCy, P.z.conj⟩

end Sys2Proof.Machine
end

