-- ==== Sys2Proof/Machine/Operands.lean ====
section
/-! DEFINITION. The typed views of slots (10_state.md R22 to R29; 30_encoding.md R93, R98, R99): reads, which may raise an error, and
the slot words a typed write stores. A write of kind K is `State.writeRun` of the K words. -/

namespace Sys2Proof.Machine

/-! ### Reads -/

/-- ReadFq: the value of a canonical slot, NONCANONICAL for a word that is q or more (10_state.md R22). -/
def State.readFq (s : State) (n : Nat) : Result Fq :=
  if Config.q ≤ (s.slot n).toNat then .error .noncanonical else .ok (fqOfWord (s.slot n))

/-- ReadFr: the value of a canonical slot, NONCANONICAL for a 384-bit word that is r or more (10_state.md R23). -/
def State.readFr (s : State) (n : Nat) : Result Fr :=
  if Config.r ≤ (s.slot n).toNat then .error .noncanonical else .ok (frOfWord (s.slot n))

/-- ReadFq2: two slots in increasing order (10_state.md R24). -/
def State.readFq2 (s : State) (n : Nat) : Result Fq2 := do
  let c0 ← s.readFq n
  let c1 ← s.readFq (n + 1)
  return ⟨c0, c1⟩

/-- ReadFq6: six slots in increasing order (10_state.md R24). -/
def State.readFq6 (s : State) (n : Nat) : Result Fq6 := do
  let c0 ← s.readFq2 n
  let c1 ← s.readFq2 (n + 2)
  let c2 ← s.readFq2 (n + 4)
  return ⟨c0, c1, c2⟩

/-- ReadFq12: twelve slots in increasing order (10_state.md R24). -/
def State.readFq12 (s : State) (n : Nat) : Result Fq12 := do
  let c0 ← s.readFq6 n
  let c1 ← s.readFq6 (n + 6)
  return ⟨c0, c1⟩

/-- ReadG1: X, Y, Z (10_state.md R25). No curve check (R27). -/
def State.readG1 (s : State) (n : Nat) : Result G1 := do
  let x ← s.readFq n
  let y ← s.readFq (n + 1)
  let z ← s.readFq (n + 2)
  return ⟨x, y, z⟩

/-- ReadG2: X, Y, Z, T, all canonical, then T_INVARIANT unless T = Z·Z (10_state.md R26). T is not returned: it is Z·Z. -/
def State.readG2 (s : State) (n : Nat) : Result G2 := do
  let x ← s.readFq2 n
  let y ← s.readFq2 (n + 2)
  let z ← s.readFq2 (n + 4)
  let t ← s.readFq2 (n + 6)
  if t = z.mul z then return ⟨x, y, z⟩ else .error .tInvariant

/-- ReadAff1: x, y in Fq (10_state.md R27). -/
def State.readAff1 (s : State) (n : Nat) : Result (Fq × Fq) := do
  let x ← s.readFq n
  let y ← s.readFq (n + 1)
  return (x, y)

/-- ReadAff2: x, y in Fq2 (10_state.md R27). -/
def State.readAff2 (s : State) (n : Nat) : Result (Fq2 × Fq2) := do
  let x ← s.readFq2 n
  let y ← s.readFq2 (n + 2)
  return (x, y)

/-- ReadU: the slot as an unsigned integer; it never faults (10_state.md R28). -/
def State.readU (s : State) (n : Nat) : Nat := (s.slot n).toNat

/-- Limb `k` of the exponent that starts at limb 0 of slot `b` (10_state.md R29). -/
def State.expLimb (s : State) (b k : Nat) : Word := limbOf (s.slot (b + k / 6)) (k % 6)

/-- ReadExp: the exponent of `n` limbs from slot `b`, least significant limb first; it never faults (10_state.md R29). -/
def State.readExp (s : State) (b : Nat) : Nat → Nat
  | 0 => 0
  | n + 1 => s.readExp b n + (s.expLimb b n).toNat * 2 ^ (64 * n)

/-- The sparse operand SP6 (30_encoding.md R98). -/
def State.readSp6 (s : State) (n : Nat) : Result Fq6 := do
  let b0 ← s.readFq2 n
  let b1 ← s.readFq2 (n + 2)
  return sparse01 b0 b1

/-- The sparse operand SP12 (30_encoding.md R98). -/
def State.readSp12 (s : State) (n : Nat) : Result Fq12 := do
  let l0 ← s.readFq2 n
  let l1 ← s.readFq2 (n + 2)
  let l4 ← s.readFq2 (n + 4)
  return sparse014 l0 l1 l4

/-! ### Words -/

/-- The slot of an Fq value (10_state.md R22). -/
def fqWords (x : Fq) : List SlotWord := [fqToWord x]

/-- The slot of an Fr value (10_state.md R23). -/
def frWords (x : Fr) : List SlotWord := [frToWord x]

/-- The slots of an Fq2 value (10_state.md R24). -/
def fq2Words (x : Fq2) : List SlotWord := [fqToWord x.c0, fqToWord x.c1]

/-- The slots of an Fq6 value (10_state.md R24). -/
def fq6Words (x : Fq6) : List SlotWord := fq2Words x.c0 ++ fq2Words x.c1 ++ fq2Words x.c2

/-- The slots of an Fq12 value (10_state.md R24). -/
def fq12Words (x : Fq12) : List SlotWord := fq6Words x.c0 ++ fq6Words x.c1

/-- WriteG1: X, Y, Z (10_state.md R25). -/
def g1Words (P : G1) : List SlotWord := [fqToWord P.x, fqToWord P.y, fqToWord P.z]

/-- WriteG2: X, Y, Z, and T = Z·Z (10_state.md R26). -/
def g2Words (P : G2) : List SlotWord := fq2Words P.x ++ fq2Words P.y ++ fq2Words P.z ++ fq2Words (P.z.mul P.z)

/-- WriteU (10_state.md R28). -/
def uWords (n : Nat) : List SlotWord := [BitVec.ofNat 384 n]

/-- WriteS for a run of signed integers, two's complement (10_state.md R28). -/
def sWords (ns : List Int) : List SlotWord := ns.map (BitVec.ofInt 384)

/-- The slots that LDC writes for a constant number, through the view its kind names; none for an index with no constant
(40_control.md R131, R132). -/
def romWords (imm : Imm) : Option (List SlotWord) :=
  match imm.toNat with
  | 0 => some (fqWords 1)
  | 1 => some (frWords 1)
  | 2 => some (fq12Words Fq12.one)
  | 3 => some (g1Words g1Gen)
  | 4 => some (g2Words g2Gen)
  | 5 => some (g1Words g1Ident)
  | 6 => some (g2Words g2Ident)
  | 7 => some (uWords Config.q)
  | 8 => some (uWords Config.r)
  | 9 => some (uWords Config.uAbs)
  | 10 => some (fqWords beta)
  | 11 => some (fq2Words psiCx)
  | 12 => some (fq2Words psiCy)
  | 13 => some (fq2Words xi)
  | _ => none

/-! ### Sampling -/

/-- The integer of a draw's words, first popped word least significant (41_field_fq_fr.md R155, R168). -/
def wordsNat : List Word → Nat
  | [] => 0
  | w :: ws => w.toNat + 2 ^ 64 * wordsNat ws

/-- FQ.RAND's loop: draws of six words masked to 381 bits until a value is neither 0 nor at least q; ENTROPY_EXHAUSTED when fewer
than six words are left. Answers the sample or the error, and the FIFO after the pops (41_field_fq_fr.md R155; log entry 21). -/
def drawFq : List Word → Result Nat × List Word
  | w0 :: w1 :: w2 :: w3 :: w4 :: w5 :: rest =>
    let v := wordsNat [w0, w1, w2, w3, w4, w5] % 2 ^ 381
    if v ≠ 0 ∧ v < Config.q then (.ok v, rest) else drawFq rest
  | left => (.error .entropyExhausted, left)

/-- FR.RAND's loop: draws of four words masked to 255 bits (41_field_fq_fr.md R168). -/
def drawFr : List Word → Result Nat × List Word
  | w0 :: w1 :: w2 :: w3 :: rest =>
    let v := wordsNat [w0, w1, w2, w3] % 2 ^ 255
    if v ≠ 0 ∧ v < Config.r then (.ok v, rest) else drawFr rest
  | left => (.error .entropyExhausted, left)

end Sys2Proof.Machine
end

