-- ==== Sys2Proof/Machine/Control.lean ====
section
/-! DEFINITION. Control commands: NOP, LDC, MOV, CLR (40_control.md R130 to R134). -/

namespace Sys2Proof.Machine

/-- NOP: no operation; no slot changes (40_control.md R130). -/
def execNop (s : State) : Outcome :=
  .next s.complete

/-- LDC: load a constant from the ROM. An index above 13 has no legal word and raises ILLEGAL_COMMAND (40_control.md R132). -/
def execLdc (d : SlotNo) (imm : Imm) (s : State) : Outcome :=
  s.finishSlots d do
    match romWords imm with
    | none => .error .illegalCommand
    | some ws =>
      checkSlots imm [(d, .const)]
      return ws

/-- MOV: copy a run of IMM + 1 slots, all reads first, raw (40_control.md R133). -/
def execMov (d a : SlotNo) (imm : Imm) (s : State) : Outcome :=
  s.finishSlots d do
    checkSlots imm [(d, .run), (a, .run)]
    return s.readRun a.toNat (imm.toNat + 1)

/-- CLR: clear a run of IMM + 1 slots to zero (40_control.md R134). -/
def execClr (d : SlotNo) (imm : Imm) (s : State) : Outcome :=
  s.finishSlots d do
    checkSlots imm [(d, .run)]
    return List.replicate (imm.toNat + 1) 0

end Sys2Proof.Machine
end

