-- ==== Sys2Proof/Machine/Fq12Commands.lean ====
section
/-! DEFINITION. The Fq12 commands (42_tower.md R210 to R220). -/

namespace Sys2Proof.Machine

/-- FQ12.ADD: addition (42_tower.md R210). -/
def execFq12Add (d a b : SlotNo) (s : State) : Outcome :=
  s.finishSlots d do
    checkSlots 0 [(d, .fq12), (a, .fq12), (b, .fq12)]
    let x ← s.readFq12 a.toNat
    let y ← s.readFq12 b.toNat
    return fq12Words (x.add y)

/-- FQ12.SUB: subtraction (42_tower.md R211). -/
def execFq12Sub (d a b : SlotNo) (s : State) : Outcome :=
  s.finishSlots d do
    checkSlots 0 [(d, .fq12), (a, .fq12), (b, .fq12)]
    let x ← s.readFq12 a.toNat
    let y ← s.readFq12 b.toNat
    return fq12Words (x.sub y)

/-- FQ12.NEG: negation (42_tower.md R212). -/
def execFq12Neg (d a : SlotNo) (s : State) : Outcome :=
  s.finishSlots d do
    checkSlots 0 [(d, .fq12), (a, .fq12)]
    let x ← s.readFq12 a.toNat
    return fq12Words x.neg

/-- FQ12.MUL: multiplication (42_tower.md R213). -/
def execFq12Mul (d a b : SlotNo) (s : State) : Outcome :=
  s.finishSlots d do
    checkSlots 0 [(d, .fq12), (a, .fq12), (b, .fq12)]
    let x ← s.readFq12 a.toNat
    let y ← s.readFq12 b.toNat
    return fq12Words (x.mul y)

/-- FQ12.SQR: squaring (42_tower.md R214). -/
def execFq12Sqr (d a : SlotNo) (s : State) : Outcome :=
  s.finishSlots d do
    checkSlots 0 [(d, .fq12), (a, .fq12)]
    let x ← s.readFq12 a.toNat
    return fq12Words x.square

/-- FQ12.INV: inversion; DIVISION_BY_ZERO for 0 (42_tower.md R215). -/
def execFq12Inv (d a : SlotNo) (s : State) : Outcome :=
  s.finishSlots d do
    checkSlots 0 [(d, .fq12), (a, .fq12)]
    let x ← s.readFq12 a.toNat
    if x = Fq12.zero then throw .divisionByZero
    return fq12Words x.inverse

/-- FQ12.CONJ: conjugation (42_tower.md R216). -/
def execFq12Conj (d a : SlotNo) (s : State) : Outcome :=
  s.finishSlots d do
    checkSlots 0 [(d, .fq12), (a, .fq12)]
    let x ← s.readFq12 a.toNat
    return fq12Words x.conj

/-- FQ12.SPMUL014: multiplication by a sparse element (42_tower.md R217). -/
def execFq12Spmul014 (d a b : SlotNo) (s : State) : Outcome :=
  s.finishSlots d do
    checkSlots 0 [(d, .fq12), (a, .fq12), (b, .sp12)]
    let x ← s.readFq12 a.toNat
    let y ← s.readSp12 b.toNat
    return fq12Words (x.mul y)

/-- FQ12.FROB: the Frobenius map to the power IMM (42_tower.md R218). -/
def execFq12Frob (d a : SlotNo) (imm : Imm) (s : State) : Outcome :=
  s.finishSlots d do
    checkSlots imm [(d, .fq12), (a, .fq12)]
    let x ← s.readFq12 a.toNat
    return fq12Words (x.frob imm.toNat)

/-- FQ12.EQ: equality (42_tower.md R219). -/
def execFq12Eq (a b : SlotNo) (s : State) : Outcome :=
  s.finishEq do
    checkSlots 0 [(a, .fq12), (b, .fq12)]
    let x ← s.readFq12 a.toNat
    let y ← s.readFq12 b.toNat
    return (x = y)

/-- FQ12.EXP: exponentiation by an integer exponent of IMM limbs (42_tower.md R220). -/
def execFq12Exp (d a b : SlotNo) (imm : Imm) (s : State) : Outcome :=
  s.finishSlots d do
    checkSlots imm [(d, .fq12), (a, .fq12), (b, .exp)]
    let x ← s.readFq12 a.toNat
    let e := s.readExp b.toNat imm.toNat
    return fq12Words (x.exp e)

end Sys2Proof.Machine
end

