-- ==== Sys2Proof/Machine/Fq2Commands.lean ====
section
/-! DEFINITION. The Fq2 commands (42_tower.md R190 to R199). -/

namespace Sys2Proof.Machine

/-- FQ2.ADD: addition (42_tower.md R190). -/
def execFq2Add (d a b : SlotNo) (s : State) : Outcome :=
  s.finishSlots d do
    checkSlots 0 [(d, .fq2), (a, .fq2), (b, .fq2)]
    let x ← s.readFq2 a.toNat
    let y ← s.readFq2 b.toNat
    return fq2Words (x.add y)

/-- FQ2.SUB: subtraction (42_tower.md R191). -/
def execFq2Sub (d a b : SlotNo) (s : State) : Outcome :=
  s.finishSlots d do
    checkSlots 0 [(d, .fq2), (a, .fq2), (b, .fq2)]
    let x ← s.readFq2 a.toNat
    let y ← s.readFq2 b.toNat
    return fq2Words (x.sub y)

/-- FQ2.NEG: negation (42_tower.md R192). -/
def execFq2Neg (d a : SlotNo) (s : State) : Outcome :=
  s.finishSlots d do
    checkSlots 0 [(d, .fq2), (a, .fq2)]
    let x ← s.readFq2 a.toNat
    return fq2Words x.neg

/-- FQ2.MUL: multiplication (42_tower.md R193). -/
def execFq2Mul (d a b : SlotNo) (s : State) : Outcome :=
  s.finishSlots d do
    checkSlots 0 [(d, .fq2), (a, .fq2), (b, .fq2)]
    let x ← s.readFq2 a.toNat
    let y ← s.readFq2 b.toNat
    return fq2Words (x.mul y)

/-- FQ2.SQR: squaring (42_tower.md R194). -/
def execFq2Sqr (d a : SlotNo) (s : State) : Outcome :=
  s.finishSlots d do
    checkSlots 0 [(d, .fq2), (a, .fq2)]
    let x ← s.readFq2 a.toNat
    return fq2Words x.square

/-- FQ2.INV: inversion; DIVISION_BY_ZERO for 0 (42_tower.md R195). -/
def execFq2Inv (d a : SlotNo) (s : State) : Outcome :=
  s.finishSlots d do
    checkSlots 0 [(d, .fq2), (a, .fq2)]
    let x ← s.readFq2 a.toNat
    if x = Fq2.zero then throw .divisionByZero
    return fq2Words x.inverse

/-- FQ2.CONJ: conjugation (42_tower.md R196). -/
def execFq2Conj (d a : SlotNo) (s : State) : Outcome :=
  s.finishSlots d do
    checkSlots 0 [(d, .fq2), (a, .fq2)]
    let x ← s.readFq2 a.toNat
    return fq2Words x.conj

/-- FQ2.MULXI: multiplication by xi = 1 + i (42_tower.md R197). -/
def execFq2Mulxi (d a : SlotNo) (s : State) : Outcome :=
  s.finishSlots d do
    checkSlots 0 [(d, .fq2), (a, .fq2)]
    let x ← s.readFq2 a.toNat
    return fq2Words x.mulXi

/-- FQ2.FROB: the Frobenius map to the power IMM (42_tower.md R198). -/
def execFq2Frob (d a : SlotNo) (imm : Imm) (s : State) : Outcome :=
  s.finishSlots d do
    checkSlots imm [(d, .fq2), (a, .fq2)]
    let x ← s.readFq2 a.toNat
    return fq2Words (x.frob imm.toNat)

/-- FQ2.EQ: equality (42_tower.md R199). -/
def execFq2Eq (a b : SlotNo) (s : State) : Outcome :=
  s.finishEq do
    checkSlots 0 [(a, .fq2), (b, .fq2)]
    let x ← s.readFq2 a.toNat
    let y ← s.readFq2 b.toNat
    return (x = y)

end Sys2Proof.Machine
end

