-- ==== Sys2Proof/Machine/Fq6Commands.lean ====
section
/-! DEFINITION. The Fq6 commands (42_tower.md R200 to R209). -/

namespace Sys2Proof.Machine

/-- FQ6.ADD: addition (42_tower.md R200). -/
def execFq6Add (d a b : SlotNo) (s : State) : Outcome :=
  s.finishSlots d do
    checkSlots 0 [(d, .fq6), (a, .fq6), (b, .fq6)]
    let x ← s.readFq6 a.toNat
    let y ← s.readFq6 b.toNat
    return fq6Words (x.add y)

/-- FQ6.SUB: subtraction (42_tower.md R201). -/
def execFq6Sub (d a b : SlotNo) (s : State) : Outcome :=
  s.finishSlots d do
    checkSlots 0 [(d, .fq6), (a, .fq6), (b, .fq6)]
    let x ← s.readFq6 a.toNat
    let y ← s.readFq6 b.toNat
    return fq6Words (x.sub y)

/-- FQ6.NEG: negation (42_tower.md R202). -/
def execFq6Neg (d a : SlotNo) (s : State) : Outcome :=
  s.finishSlots d do
    checkSlots 0 [(d, .fq6), (a, .fq6)]
    let x ← s.readFq6 a.toNat
    return fq6Words x.neg

/-- FQ6.MUL: multiplication (42_tower.md R203). -/
def execFq6Mul (d a b : SlotNo) (s : State) : Outcome :=
  s.finishSlots d do
    checkSlots 0 [(d, .fq6), (a, .fq6), (b, .fq6)]
    let x ← s.readFq6 a.toNat
    let y ← s.readFq6 b.toNat
    return fq6Words (x.mul y)

/-- FQ6.SQR: squaring (42_tower.md R204). -/
def execFq6Sqr (d a : SlotNo) (s : State) : Outcome :=
  s.finishSlots d do
    checkSlots 0 [(d, .fq6), (a, .fq6)]
    let x ← s.readFq6 a.toNat
    return fq6Words x.square

/-- FQ6.INV: inversion; DIVISION_BY_ZERO for 0 (42_tower.md R205). -/
def execFq6Inv (d a : SlotNo) (s : State) : Outcome :=
  s.finishSlots d do
    checkSlots 0 [(d, .fq6), (a, .fq6)]
    let x ← s.readFq6 a.toNat
    if x = Fq6.zero then throw .divisionByZero
    return fq6Words x.inverse

/-- FQ6.MULNR: multiplication by y (42_tower.md R206). -/
def execFq6Mulnr (d a : SlotNo) (s : State) : Outcome :=
  s.finishSlots d do
    checkSlots 0 [(d, .fq6), (a, .fq6)]
    let x ← s.readFq6 a.toNat
    return fq6Words x.mulNr

/-- FQ6.SPMUL01: multiplication by a sparse element (42_tower.md R207). -/
def execFq6Spmul01 (d a b : SlotNo) (s : State) : Outcome :=
  s.finishSlots d do
    checkSlots 0 [(d, .fq6), (a, .fq6), (b, .sp6)]
    let x ← s.readFq6 a.toNat
    let y ← s.readSp6 b.toNat
    return fq6Words (x.mul y)

/-- FQ6.FROB: the Frobenius map to the power IMM (42_tower.md R208). -/
def execFq6Frob (d a : SlotNo) (imm : Imm) (s : State) : Outcome :=
  s.finishSlots d do
    checkSlots imm [(d, .fq6), (a, .fq6)]
    let x ← s.readFq6 a.toNat
    return fq6Words (x.frob imm.toNat)

/-- FQ6.EQ: equality (42_tower.md R209). -/
def execFq6Eq (a b : SlotNo) (s : State) : Outcome :=
  s.finishEq do
    checkSlots 0 [(a, .fq6), (b, .fq6)]
    let x ← s.readFq6 a.toNat
    let y ← s.readFq6 b.toNat
    return (x = y)

end Sys2Proof.Machine
end

