-- ==== Sys2Proof/Machine/FqCommands.lean ====
section
/-! DEFINITION. The Fq field commands (41_field_fq_fr.md R145 to R155). -/

namespace Sys2Proof.Machine

/-- FQ.ADD: FQ addition (41_field_fq_fr.md R145). -/
def execFqAdd (d a b : SlotNo) (s : State) : Outcome :=
  s.finishSlots d do
    checkSlots 0 [(d, .fq), (a, .fq), (b, .fq)]
    let x ← s.readFq a.toNat
    let y ← s.readFq b.toNat
    return fqWords (x + y)

/-- FQ.SUB: FQ subtraction (41_field_fq_fr.md R146). -/
def execFqSub (d a b : SlotNo) (s : State) : Outcome :=
  s.finishSlots d do
    checkSlots 0 [(d, .fq), (a, .fq), (b, .fq)]
    let x ← s.readFq a.toNat
    let y ← s.readFq b.toNat
    return fqWords (x - y)

/-- FQ.NEG: FQ negation (41_field_fq_fr.md R147). -/
def execFqNeg (d a : SlotNo) (s : State) : Outcome :=
  s.finishSlots d do
    checkSlots 0 [(d, .fq), (a, .fq)]
    let x ← s.readFq a.toNat
    return fqWords (-x)

/-- FQ.MUL: FQ multiplication, the Montgomery multiplier at value level (41_field_fq_fr.md R148). -/
def execFqMul (d a b : SlotNo) (s : State) : Outcome :=
  s.finishSlots d do
    checkSlots 0 [(d, .fq), (a, .fq), (b, .fq)]
    let x ← s.readFq a.toNat
    let y ← s.readFq b.toNat
    return fqWords (x * y)

/-- FQ.SQR: FQ squaring (41_field_fq_fr.md R149). -/
def execFqSqr (d a : SlotNo) (s : State) : Outcome :=
  s.finishSlots d do
    checkSlots 0 [(d, .fq), (a, .fq)]
    let x ← s.readFq a.toNat
    return fqWords (x * x)

/-- FQ.EXP: exponentiation by an integer exponent of IMM limbs (41_field_fq_fr.md R150). -/
def execFqExp (d a b : SlotNo) (imm : Imm) (s : State) : Outcome :=
  s.finishSlots d do
    checkSlots imm [(d, .fq), (a, .fq), (b, .exp)]
    let x ← s.readFq a.toNat
    let e := s.readExp b.toNat imm.toNat
    return fqWords (expInt x e)

/-- FQ.INV: inversion; DIVISION_BY_ZERO for 0 (41_field_fq_fr.md R151). -/
def execFqInv (d a : SlotNo) (s : State) : Outcome :=
  s.finishSlots d do
    checkSlots 0 [(d, .fq), (a, .fq)]
    let x ← s.readFq a.toNat
    if x = 0 then throw .divisionByZero
    return fqWords (fqInverse x)

/-- FQ.FROMINT: construction from an integer; OUT_OF_BOUNDS for an integer not below the modulus (41_field_fq_fr.md R152). -/
def execFqFromint (d a : SlotNo) (s : State) : Outcome :=
  s.finishSlots d do
    checkSlots 0 [(d, .fq), (a, .u)]
    let n := s.readU a.toNat
    if Config.q ≤ n then throw .outOfBounds
    return fqWords (Fin.ofNat Config.q n)

/-- FQ.TOINT: conversion to an integer (41_field_fq_fr.md R153). -/
def execFqToint (d a : SlotNo) (s : State) : Outcome :=
  s.finishSlots d do
    checkSlots 0 [(d, .u), (a, .fq)]
    let x ← s.readFq a.toNat
    return uWords x.val

/-- FQ.EQ: equality (41_field_fq_fr.md R154). -/
def execFqEq (a b : SlotNo) (s : State) : Outcome :=
  s.finishEq do
    checkSlots 0 [(a, .fq), (b, .fq)]
    let x ← s.readFq a.toNat
    let y ← s.readFq b.toNat
    return (x = y)

/-- FQ.RAND: a non-zero sample from the entropy FIFO; the words of rejected draws stay popped (41_field_fq_fr.md R155). -/
def execFqRand (d : SlotNo) (s : State) : Outcome :=
  match checkSlots 0 [(d, .fq)] with
  | .error c => .next (s.raise c)
  | .ok () =>
    let r := drawFq s.entropy
    s.finishDraw d (r.1.map fun v => fqWords (Fin.ofNat Config.q v)) r.2

end Sys2Proof.Machine
end

