-- ==== Sys2Proof/Machine/FrCommands.lean ====
section
/-! DEFINITION. The Fr field commands (41_field_fq_fr.md R157 to R168). -/

namespace Sys2Proof.Machine

/-- FR.ADD: FR addition (41_field_fq_fr.md R158). -/
def execFrAdd (d a b : SlotNo) (s : State) : Outcome :=
  s.finishSlots d do
    checkSlots 0 [(d, .fr), (a, .fr), (b, .fr)]
    let x ← s.readFr a.toNat
    let y ← s.readFr b.toNat
    return frWords (x + y)

/-- FR.SUB: FR subtraction (41_field_fq_fr.md R159). -/
def execFrSub (d a b : SlotNo) (s : State) : Outcome :=
  s.finishSlots d do
    checkSlots 0 [(d, .fr), (a, .fr), (b, .fr)]
    let x ← s.readFr a.toNat
    let y ← s.readFr b.toNat
    return frWords (x - y)

/-- FR.NEG: FR negation (41_field_fq_fr.md R160). -/
def execFrNeg (d a : SlotNo) (s : State) : Outcome :=
  s.finishSlots d do
    checkSlots 0 [(d, .fr), (a, .fr)]
    let x ← s.readFr a.toNat
    return frWords (-x)

/-- FR.MUL: FR multiplication, the Montgomery multiplier at value level (41_field_fq_fr.md R161). -/
def execFrMul (d a b : SlotNo) (s : State) : Outcome :=
  s.finishSlots d do
    checkSlots 0 [(d, .fr), (a, .fr), (b, .fr)]
    let x ← s.readFr a.toNat
    let y ← s.readFr b.toNat
    return frWords (x * y)

/-- FR.SQR: FR squaring (41_field_fq_fr.md R162). -/
def execFrSqr (d a : SlotNo) (s : State) : Outcome :=
  s.finishSlots d do
    checkSlots 0 [(d, .fr), (a, .fr)]
    let x ← s.readFr a.toNat
    return frWords (x * x)

/-- FR.EXP: exponentiation by an integer exponent of IMM limbs (41_field_fq_fr.md R163). -/
def execFrExp (d a b : SlotNo) (imm : Imm) (s : State) : Outcome :=
  s.finishSlots d do
    checkSlots imm [(d, .fr), (a, .fr), (b, .exp)]
    let x ← s.readFr a.toNat
    let e := s.readExp b.toNat imm.toNat
    return frWords (expInt x e)

/-- FR.INV: inversion; DIVISION_BY_ZERO for 0 (41_field_fq_fr.md R164). -/
def execFrInv (d a : SlotNo) (s : State) : Outcome :=
  s.finishSlots d do
    checkSlots 0 [(d, .fr), (a, .fr)]
    let x ← s.readFr a.toNat
    if x = 0 then throw .divisionByZero
    return frWords (frInverse x)

/-- FR.FROMINT: construction from an integer; OUT_OF_BOUNDS for an integer not below the modulus (41_field_fq_fr.md R165). -/
def execFrFromint (d a : SlotNo) (s : State) : Outcome :=
  s.finishSlots d do
    checkSlots 0 [(d, .fr), (a, .u)]
    let n := s.readU a.toNat
    if Config.r ≤ n then throw .outOfBounds
    return frWords (Fin.ofNat Config.r n)

/-- FR.TOINT: conversion to an integer (41_field_fq_fr.md R166). -/
def execFrToint (d a : SlotNo) (s : State) : Outcome :=
  s.finishSlots d do
    checkSlots 0 [(d, .u), (a, .fr)]
    let x ← s.readFr a.toNat
    return uWords x.val

/-- FR.EQ: equality (41_field_fq_fr.md R167). -/
def execFrEq (a b : SlotNo) (s : State) : Outcome :=
  s.finishEq do
    checkSlots 0 [(a, .fr), (b, .fr)]
    let x ← s.readFr a.toNat
    let y ← s.readFr b.toNat
    return (x = y)

/-- FR.RAND: a non-zero sample from the entropy FIFO; the words of rejected draws stay popped (41_field_fq_fr.md R168). -/
def execFrRand (d : SlotNo) (s : State) : Outcome :=
  match checkSlots 0 [(d, .fr)] with
  | .error c => .next (s.raise c)
  | .ok () =>
    let r := drawFr s.entropy
    s.finishDraw d (r.1.map fun v => frWords (Fin.ofNat Config.r v)) r.2

end Sys2Proof.Machine
end

