-- ==== Sys2Proof/Machine/Lattice.lean ====
section
/-! DEFINITION. Babai-rounding scalar decomposition (44_lattice.md R291), in exact integer arithmetic. -/

namespace Sys2Proof.Machine

/-- round(n·w/r), half up: the floor quotient, plus one if the remainder exceeds r div 2 (44_lattice.md R291;
90_conflicts.md C9). -/
def babaiRound (n : Nat) (w : Int) : Int :=
  (n * w) / (Config.r : Int) + (if (n * w) % (Config.r : Int) > ((Config.r / 2 : Nat) : Int) then 1 else 0)

/-- The row vector v·B, row by row; `B` has rows of length `m`. -/
def vecMat (m : Nat) : List Int → List (List Int) → List Int
  | v :: vs, b :: bs => List.zipWith (fun x y => v * x + y) b (vecMat m vs bs)
  | _, _ => List.replicate m 0

/-- (n, 0, …, 0), of length `m`. -/
def unitRow (m n : Nat) : List Int := (n : Int) :: List.replicate (m - 1) 0

/-- Decompose_B(n) = (n, 0, …, 0) - v·B with v the rounded n·w/r (44_lattice.md R291). -/
def decompose (L : Lattice) (n : Nat) : List Int :=
  List.zipWith (fun x y => x - y) (unitRow L.adj.length n)
    (vecMat L.adj.length (L.adj.map (babaiRound n)) L.basis)

/-- Decompose1, with LAT1 (44_lattice.md R291, R293). -/
def decompose1 (n : Nat) : List Int := decompose lat1 n

/-- Decompose2, with LAT2 (44_lattice.md R291, R294). -/
def decompose2 (n : Nat) : List Int := decompose lat2 n

end Sys2Proof.Machine
end

