-- ==== Sys2Proof/Machine/G1Commands.lean ====
section
/-! DEFINITION. The G1 commands (43_groups.md R250 to R259). -/

namespace Sys2Proof.Machine

/-- G1.ADD: point addition (43_groups.md R250). -/
def execG1Add (d a b : SlotNo) (s : State) : Outcome :=
  s.finishSlots d do
    checkSlots 0 [(d, .g1), (a, .g1), (b, .g1)]
    let P ← s.readG1 a.toNat
    let Q ← s.readG1 b.toNat
    return g1Words (g1Add P Q)

/-- G1.DBL: point doubling (43_groups.md R251). -/
def execG1Dbl (d a : SlotNo) (s : State) : Outcome :=
  s.finishSlots d do
    checkSlots 0 [(d, .g1), (a, .g1)]
    let P ← s.readG1 a.toNat
    return g1Words (g1Dbl P)

/-- G1.NEG: point negation (43_groups.md R252). -/
def execG1Neg (d a : SlotNo) (s : State) : Outcome :=
  s.finishSlots d do
    checkSlots 0 [(d, .g1), (a, .g1)]
    let P ← s.readG1 a.toNat
    return g1Words (g1Neg P)

/-- G1.SMUL: scalar multiplication by double-and-add, any 384-bit scalar (43_groups.md R253). -/
def execG1Smul (d a b : SlotNo) (s : State) : Outcome :=
  s.finishSlots d do
    checkSlots 0 [(d, .g1), (a, .g1), (b, .u)]
    let P ← s.readG1 a.toNat
    let k := s.readU b.toNat
    return g1Words (g1SMul P k)

/-- G1.SMULGLV: scalar multiplication through the GLV decomposition; SCALAR_RANGE for a scalar not below r (43_groups.md R254). -/
def execG1Smulglv (d a b : SlotNo) (s : State) : Outcome :=
  s.finishSlots d do
    checkSlots 0 [(d, .g1), (a, .g1), (b, .u)]
    let P ← s.readG1 a.toNat
    let k := s.readU b.toNat
    if Config.r ≤ k then throw .scalarRange
    return g1Words (g1MultiMul ([P, endo P].zip (decompose1 k)))

/-- G1.TOAFF: normalisation to Z = 1; DIVISION_BY_ZERO for an identity (43_groups.md R255). -/
def execG1Toaff (d a : SlotNo) (s : State) : Outcome :=
  s.finishSlots d do
    checkSlots 0 [(d, .g1), (a, .g1)]
    let P ← s.readG1 a.toNat
    if P.z = 1 then return g1Words P
    else if P.z = 0 then throw .divisionByZero
    else return g1Words ⟨(g1Aff P).1, (g1Aff P).2, 1⟩

/-- G1.EQ: point equality (43_groups.md R256). -/
def execG1Eq (a b : SlotNo) (s : State) : Outcome :=
  s.finishEq do
    checkSlots 0 [(a, .g1), (b, .g1)]
    let P ← s.readG1 a.toNat
    let Q ← s.readG1 b.toNat
    return g1PEq P Q

/-- G1.ENDO: the GLV endomorphism (43_groups.md R257). -/
def execG1Endo (d a : SlotNo) (s : State) : Outcome :=
  s.finishSlots d do
    checkSlots 0 [(d, .g1), (a, .g1)]
    let P ← s.readG1 a.toNat
    return g1Words (endo P)

/-- G1.FROMAFF: a point from affine coordinates, with no curve check (43_groups.md R258). -/
def execG1Fromaff (d a : SlotNo) (s : State) : Outcome :=
  s.finishSlots d do
    checkSlots 0 [(d, .g1), (a, .af1)]
    let A ← s.readAff1 a.toNat
    return g1Words ⟨A.1, A.2, 1⟩

/-- G1.IDENT: the identity (1, 1, 0) (43_groups.md R259). -/
def execG1Ident (d : SlotNo) (s : State) : Outcome :=
  s.finishSlots d do
    checkSlots 0 [(d, .g1)]
    return g1Words g1Ident

end Sys2Proof.Machine
end

