-- ==== Sys2Proof/Machine/G2Commands.lean ====
section
/-! DEFINITION. The G2 commands (43_groups.md R260 to R269). -/

namespace Sys2Proof.Machine

/-- G2.ADD: point addition (43_groups.md R260). -/
def execG2Add (d a b : SlotNo) (s : State) : Outcome :=
  s.finishSlots d do
    checkSlots 0 [(d, .g2), (a, .g2), (b, .g2)]
    let P ← s.readG2 a.toNat
    let Q ← s.readG2 b.toNat
    return g2Words (g2Add P Q)

/-- G2.DBL: point doubling (43_groups.md R261). -/
def execG2Dbl (d a : SlotNo) (s : State) : Outcome :=
  s.finishSlots d do
    checkSlots 0 [(d, .g2), (a, .g2)]
    let P ← s.readG2 a.toNat
    return g2Words (g2Dbl P)

/-- G2.NEG: point negation (43_groups.md R262). -/
def execG2Neg (d a : SlotNo) (s : State) : Outcome :=
  s.finishSlots d do
    checkSlots 0 [(d, .g2), (a, .g2)]
    let P ← s.readG2 a.toNat
    return g2Words (g2Neg P)

/-- G2.SMUL: scalar multiplication by double-and-add, any 384-bit scalar (43_groups.md R263). -/
def execG2Smul (d a b : SlotNo) (s : State) : Outcome :=
  s.finishSlots d do
    checkSlots 0 [(d, .g2), (a, .g2), (b, .u)]
    let P ← s.readG2 a.toNat
    let k := s.readU b.toNat
    return g2Words (g2SMul P k)

/-- G2.SMULGLS: scalar multiplication through the GLS decomposition; SCALAR_RANGE for a scalar not below r (43_groups.md R264). -/
def execG2Smulgls (d a b : SlotNo) (s : State) : Outcome :=
  s.finishSlots d do
    checkSlots 0 [(d, .g2), (a, .g2), (b, .u)]
    let P ← s.readG2 a.toNat
    let k := s.readU b.toNat
    if Config.r ≤ k then throw .scalarRange
    return g2Words (g2MultiMul ([P, psi P, psi (psi P), psi (psi (psi P))].zip (decompose2 k)))

/-- G2.TOAFF: normalisation to Z = 1; DIVISION_BY_ZERO for an identity (43_groups.md R265). -/
def execG2Toaff (d a : SlotNo) (s : State) : Outcome :=
  s.finishSlots d do
    checkSlots 0 [(d, .g2), (a, .g2)]
    let P ← s.readG2 a.toNat
    if P.z = Fq2.one then return g2Words P
    else if P.z = Fq2.zero then throw .divisionByZero
    else return g2Words ⟨(g2Aff P).1, (g2Aff P).2, Fq2.one⟩

/-- G2.EQ: point equality (43_groups.md R266). -/
def execG2Eq (a b : SlotNo) (s : State) : Outcome :=
  s.finishEq do
    checkSlots 0 [(a, .g2), (b, .g2)]
    let P ← s.readG2 a.toNat
    let Q ← s.readG2 b.toNat
    return g2PEq P Q

/-- G2.PSI: the untwist-Frobenius-twist endomorphism (43_groups.md R267). -/
def execG2Psi (d a : SlotNo) (s : State) : Outcome :=
  s.finishSlots d do
    checkSlots 0 [(d, .g2), (a, .g2)]
    let P ← s.readG2 a.toNat
    return g2Words (psi P)

/-- G2.FROMAFF: a point from affine coordinates, with no curve check (43_groups.md R268). -/
def execG2Fromaff (d a : SlotNo) (s : State) : Outcome :=
  s.finishSlots d do
    checkSlots 0 [(d, .g2), (a, .af2)]
    let A ← s.readAff2 a.toNat
    return g2Words ⟨A.1, A.2, Fq2.one⟩

/-- G2.IDENT: the identity (1, 1, 0) (43_groups.md R269). -/
def execG2Ident (d : SlotNo) (s : State) : Outcome :=
  s.finishSlots d do
    checkSlots 0 [(d, .g2)]
    return g2Words g2Ident

end Sys2Proof.Machine
end

