-- ==== Sys2Proof/Machine/LatticeCommands.lean ====
section
/-! DEFINITION. The lattice decomposition commands (44_lattice.md R293, R294). -/

namespace Sys2Proof.Machine

/-- LAT.DECOMP1: two-dimensional scalar decomposition; SCALAR_RANGE for a scalar not below r (44_lattice.md R293). -/
def execLatDecomp1 (d a : SlotNo) (s : State) : Outcome :=
  s.finishSlots d do
    checkSlots 0 [(d, .s2), (a, .u)]
    let n := s.readU a.toNat
    if Config.r ≤ n then throw .scalarRange
    return sWords (decompose1 n)

/-- LAT.DECOMP2: four-dimensional scalar decomposition; SCALAR_RANGE for a scalar not below r (44_lattice.md R294). -/
def execLatDecomp2 (d a : SlotNo) (s : State) : Outcome :=
  s.finishSlots d do
    checkSlots 0 [(d, .s4), (a, .u)]
    let n := s.readU a.toNat
    if Config.r ≤ n then throw .scalarRange
    return sWords (decompose2 n)

end Sys2Proof.Machine
end

