-- ==== Sys2Proof/Machine/Pairing.lean ====
section
/-! DEFINITION. Line steps, the Miller loop and the final exponentiation (45_pairing.md R300 to R307). -/

namespace Sys2Proof.Machine

/-- The coefficients (l0, l1, l4) of a line (45_pairing.md R302). -/
structure Line where
  l0 : Fq2
  l1 : Fq2
  l4 : Fq2
  deriving DecidableEq, Repr

/-- Line(l0, l1, l4) as an Fq12 element (45_pairing.md R302). -/
def Line.value (l : Line) : Fq12 := sparse014 l.l0 l.l1 l.l4

/-- LineDbl: a doubling step with line evaluation; `T` is the fourth coordinate of R, which is Z^2 (45_pairing.md R300). -/
def lineDbl (R : G2) (T : Fq2) (xP yP : Fq) : G2 × Line :=
  letI := fq2Ops
  let t0 := sqr R.x
  let t1 := sqr R.y
  let t2 := sqr t1
  let t3 := twice (sqr (t1 + R.x) - t0 - t2)
  let t4 := thrice t0
  let t6 := R.x + t4
  let t5 := sqr t4
  let XT := t5 - twice t3
  let ZT := sqr (R.y + R.z) - t1 - T
  let YT := (t3 - XT) * t4 - twice (twice (twice t2))
  let l0 := sqr t6 - t0 - t5 - twice (twice t1)
  let l1 := Fq2.scale (-twice (t4 * T)) xP
  let l4 := Fq2.scale (twice (ZT * T)) yP
  (⟨XT, YT, ZT⟩, ⟨l0, l1, l4⟩)

/-- LineAdd: a mixed-addition step with line evaluation, with no special case (45_pairing.md R301). -/
def lineAdd (R : G2) (T xQ yQ : Fq2) (xP yP : Fq) : G2 × Line :=
  letI := fq2Ops
  let t0 := xQ * T
  let t1 := (sqr (yQ + R.z) - sqr yQ - T) * T
  let t2 := t0 - R.x
  let t3 := sqr t2
  let t4 := twice (twice t3)
  let t5 := t4 * t2
  let t6 := t1 - twice R.y
  let t9 := t6 * xQ
  let t7 := R.x * t4
  let XT := sqr t6 - t5 - twice t7
  let ZT := sqr (R.z + t2) - T - t3
  let t8 := (t7 - XT) * t6
  let YT := t8 - twice (R.y * t5)
  let TT := sqr ZT
  let t10 := sqr (yQ + ZT) - sqr yQ - TT
  let l0 := twice t9 - t10
  let l1 := Fq2.scale (-twice t6) xP
  let l4 := Fq2.scale (twice ZT) yP
  (⟨XT, YT, ZT⟩, ⟨l0, l1, l4⟩)

/-- The fourth coordinate T = Z^2 that a core-made G2 point carries (10_state.md R26). -/
def tOf (R : G2) : Fq2 := R.z.square

/-- The addition step of one Miller iteration, taken when the bit of |u| is set (45_pairing.md R305). -/
def millerAdd (xP yP : Fq) (xQ yQ : Fq2) (R : G2) (f : Fq12) : G2 × Fq12 :=
  let s := lineAdd R (tOf R) xQ yQ xP yP
  (s.1, f.mul s.2.value)

/-- The doubling step of one Miller iteration (45_pairing.md R305). -/
def millerDbl (xP yP : Fq) (R : G2) (f : Fq12) : G2 × Fq12 :=
  let s := lineDbl R (tOf R) xP yP
  (s.1, f.mul s.2.value)

/-- The Miller loop over the lowest `b` bits of |u|, most significant first: a squaring except at bit 62, a doubling step, and an
addition step where the bit is set (45_pairing.md R305). -/
def millerLoop (xP yP : Fq) (xQ yQ : Fq2) (R : G2) (f : Fq12) : Nat → Fq12
  | 0 => f
  | b + 1 =>
    let d := millerDbl xP yP R (if b = 62 then f else f.square)
    let e := if Config.uAbs.testBit b then millerAdd xP yP xQ yQ d.1 d.2 else d
    millerLoop xP yP xQ yQ e.1 e.2 b

/-- Miller(xP, yP, xQ, yQ): bits 62 down to 0 of |u|, then the conjugation because u < 0 (45_pairing.md R305). -/
def millerValue (xP yP : Fq) (xQ yQ : Fq2) : Fq12 :=
  (millerLoop xP yP xQ yQ ⟨xQ, yQ, Fq2.one⟩ Fq12.one 63).conj

/-- Ebx(f, e) = conj(f^e) (45_pairing.md R307). -/
def ebx (f : Fq12) (e : Nat) : Fq12 := (f.exp e).conj

/-- The easy part of the final exponentiation: t = conj(m)·m^-1, then Frob12(t, 2)·t (45_pairing.md R307). -/
def finalEasy (m : Fq12) : Fq12 :=
  let t := m.conj.mul m.inverse
  (t.frob 2).mul t

/-- The hard part of the final exponentiation, line by line (45_pairing.md R307). -/
def finalHard (rr : Fq12) : Fq12 :=
  let x := Config.uAbs
  let y0 := rr.mul rr
  let y1 := ebx y0 x
  let y2 := ebx y1 (x >>> 1)
  let y3 := rr.conj
  let y1 := y1.mul y3
  let y1 := y1.conj
  let y1 := y1.mul y2
  let y2 := ebx y1 x
  let y3 := ebx y2 x
  let y1 := y1.conj
  let y3 := y3.mul y1
  let y1 := y1.conj
  let y1 := y1.frob 3
  let y2 := y2.frob 2
  let y1 := y1.mul y2
  let y2 := ebx y3 x
  let y2 := y2.mul y0
  let y2 := y2.mul rr
  let y1 := y1.mul y2
  let y2 := y3.frob 1
  y1.mul y2

/-- FinalExp(m), for m ≠ 0 (45_pairing.md R307). -/
def finalExp (m : Fq12) : Fq12 := finalHard (finalEasy m)

end Sys2Proof.Machine
end

