-- ==== Sys2Proof/Machine/PairingCommands.lean ====
section
/-! DEFINITION. The pairing commands (45_pairing.md R303 to R309). -/

namespace Sys2Proof.Machine

/-- The LD result of a line step: R' with its T, then l0, l1, l4 (30_encoding.md R99). -/
def ldWords (p : G2 × Line) : List SlotWord := g2Words p.1 ++ fq2Words p.2.l0 ++ fq2Words p.2.l1 ++ fq2Words p.2.l4

/-- LINEDBL: doubling step with line evaluation (45_pairing.md R303). -/
def execLinedbl (d a b : SlotNo) (s : State) : Outcome :=
  s.finishSlots d do
    checkSlots 0 [(d, .ld), (a, .g2), (b, .af1)]
    let R ← s.readG2 a.toNat
    let P ← s.readAff1 b.toNat
    return ldWords (lineDbl R (tOf R) P.1 P.2)

/-- LINEADD: mixed-addition step with line evaluation (45_pairing.md R304). -/
def execLineadd (d a b : SlotNo) (s : State) : Outcome :=
  s.finishSlots d do
    checkSlots 0 [(d, .ld), (a, .g2), (b, .la)]
    let R ← s.readG2 a.toNat
    let xQ ← s.readFq2 b.toNat
    let yQ ← s.readFq2 (b.toNat + 2)
    let xP ← s.readFq (b.toNat + 4)
    let yP ← s.readFq (b.toNat + 5)
    return ldWords (lineAdd R (tOf R) xQ yQ xP yP)

/-- MILLER: the Miller loop on affine inputs (45_pairing.md R306). -/
def execMiller (d a b : SlotNo) (s : State) : Outcome :=
  s.finishSlots d do
    checkSlots 0 [(d, .fq12), (a, .af1), (b, .af2)]
    let P ← s.readAff1 a.toNat
    let Q ← s.readAff2 b.toNat
    return fq12Words (millerValue P.1 P.2 Q.1 Q.2)

/-- FINEXP: the final exponentiation; DIVISION_BY_ZERO for 0 (45_pairing.md R308). -/
def execFinexp (d a : SlotNo) (s : State) : Outcome :=
  s.finishSlots d do
    checkSlots 0 [(d, .fq12), (a, .fq12)]
    let m ← s.readFq12 a.toNat
    if m = Fq12.zero then throw .divisionByZero
    return fq12Words (finalExp m)

/-- PAIR: the optimal-ate pairing of Jacobian points; 1 when a point is an identity, DIVISION_BY_ZERO for a zero Miller value (45_pairing.md R309). -/
def execPair (d a b : SlotNo) (s : State) : Outcome :=
  s.finishSlots d do
    checkSlots 0 [(d, .fq12), (a, .g1), (b, .g2)]
    let P ← s.readG1 a.toNat
    let Q ← s.readG2 b.toNat
    if P.z = 0 ∨ Q.z = Fq2.zero then return fq12Words Fq12.one
    else
      let m := millerValue (g1Aff P).1 (g1Aff P).2 (g2Aff Q).1 (g2Aff Q).2
      if m = Fq12.zero then throw .divisionByZero
      return fq12Words (finalExp m)

end Sys2Proof.Machine
end

