-- ==== Sys2Proof/Machine/Dispatch.lean ====
section
/-! DEFINITION. The meaning of every command, one arm each. -/

namespace Sys2Proof.Machine

def exec (i : Instr) (s : State) : Host.Outcome State Fault Refusal :=
  match i with
  | .nop => Sys2Proof.Machine.execNop s
  | .ldc d imm => Sys2Proof.Machine.execLdc d imm s
  | .mov d a imm => Sys2Proof.Machine.execMov d a imm s
  | .clr d imm => Sys2Proof.Machine.execClr d imm s
  | .fqAdd d a b => Sys2Proof.Machine.execFqAdd d a b s
  | .fqSub d a b => Sys2Proof.Machine.execFqSub d a b s
  | .fqNeg d a => Sys2Proof.Machine.execFqNeg d a s
  | .fqMul d a b => Sys2Proof.Machine.execFqMul d a b s
  | .fqSqr d a => Sys2Proof.Machine.execFqSqr d a s
  | .fqExp d a b imm => Sys2Proof.Machine.execFqExp d a b imm s
  | .fqInv d a => Sys2Proof.Machine.execFqInv d a s
  | .fqFromint d a => Sys2Proof.Machine.execFqFromint d a s
  | .fqToint d a => Sys2Proof.Machine.execFqToint d a s
  | .fqEq a b => Sys2Proof.Machine.execFqEq a b s
  | .fqRand d => Sys2Proof.Machine.execFqRand d s
  | .frAdd d a b => Sys2Proof.Machine.execFrAdd d a b s
  | .frSub d a b => Sys2Proof.Machine.execFrSub d a b s
  | .frNeg d a => Sys2Proof.Machine.execFrNeg d a s
  | .frMul d a b => Sys2Proof.Machine.execFrMul d a b s
  | .frSqr d a => Sys2Proof.Machine.execFrSqr d a s
  | .frExp d a b imm => Sys2Proof.Machine.execFrExp d a b imm s
  | .frInv d a => Sys2Proof.Machine.execFrInv d a s
  | .frFromint d a => Sys2Proof.Machine.execFrFromint d a s
  | .frToint d a => Sys2Proof.Machine.execFrToint d a s
  | .frEq a b => Sys2Proof.Machine.execFrEq a b s
  | .frRand d => Sys2Proof.Machine.execFrRand d s
  | .fq2Add d a b => Sys2Proof.Machine.execFq2Add d a b s
  | .fq2Sub d a b => Sys2Proof.Machine.execFq2Sub d a b s
  | .fq2Neg d a => Sys2Proof.Machine.execFq2Neg d a s
  | .fq2Mul d a b => Sys2Proof.Machine.execFq2Mul d a b s
  | .fq2Sqr d a => Sys2Proof.Machine.execFq2Sqr d a s
  | .fq2Inv d a => Sys2Proof.Machine.execFq2Inv d a s
  | .fq2Conj d a => Sys2Proof.Machine.execFq2Conj d a s
  | .fq2Mulxi d a => Sys2Proof.Machine.execFq2Mulxi d a s
  | .fq2Frob d a imm => Sys2Proof.Machine.execFq2Frob d a imm s
  | .fq2Eq a b => Sys2Proof.Machine.execFq2Eq a b s
  | .fq6Add d a b => Sys2Proof.Machine.execFq6Add d a b s
  | .fq6Sub d a b => Sys2Proof.Machine.execFq6Sub d a b s
  | .fq6Neg d a => Sys2Proof.Machine.execFq6Neg d a s
  | .fq6Mul d a b => Sys2Proof.Machine.execFq6Mul d a b s
  | .fq6Sqr d a => Sys2Proof.Machine.execFq6Sqr d a s
  | .fq6Inv d a => Sys2Proof.Machine.execFq6Inv d a s
  | .fq6Mulnr d a => Sys2Proof.Machine.execFq6Mulnr d a s
  | .fq6Spmul01 d a b => Sys2Proof.Machine.execFq6Spmul01 d a b s
  | .fq6Frob d a imm => Sys2Proof.Machine.execFq6Frob d a imm s
  | .fq6Eq a b => Sys2Proof.Machine.execFq6Eq a b s
  | .fq12Add d a b => Sys2Proof.Machine.execFq12Add d a b s
  | .fq12Sub d a b => Sys2Proof.Machine.execFq12Sub d a b s
  | .fq12Neg d a => Sys2Proof.Machine.execFq12Neg d a s
  | .fq12Mul d a b => Sys2Proof.Machine.execFq12Mul d a b s
  | .fq12Sqr d a => Sys2Proof.Machine.execFq12Sqr d a s
  | .fq12Inv d a => Sys2Proof.Machine.execFq12Inv d a s
  | .fq12Conj d a => Sys2Proof.Machine.execFq12Conj d a s
  | .fq12Spmul014 d a b => Sys2Proof.Machine.execFq12Spmul014 d a b s
  | .fq12Frob d a imm => Sys2Proof.Machine.execFq12Frob d a imm s
  | .fq12Eq a b => Sys2Proof.Machine.execFq12Eq a b s
  | .fq12Exp d a b imm => Sys2Proof.Machine.execFq12Exp d a b imm s
  | .g1Add d a b => Sys2Proof.Machine.execG1Add d a b s
  | .g1Dbl d a => Sys2Proof.Machine.execG1Dbl d a s
  | .g1Neg d a => Sys2Proof.Machine.execG1Neg d a s
  | .g1Smul d a b => Sys2Proof.Machine.execG1Smul d a b s
  | .g1Smulglv d a b => Sys2Proof.Machine.execG1Smulglv d a b s
  | .g1Toaff d a => Sys2Proof.Machine.execG1Toaff d a s
  | .g1Eq a b => Sys2Proof.Machine.execG1Eq a b s
  | .g1Endo d a => Sys2Proof.Machine.execG1Endo d a s
  | .g1Fromaff d a => Sys2Proof.Machine.execG1Fromaff d a s
  | .g1Ident d => Sys2Proof.Machine.execG1Ident d s
  | .g2Add d a b => Sys2Proof.Machine.execG2Add d a b s
  | .g2Dbl d a => Sys2Proof.Machine.execG2Dbl d a s
  | .g2Neg d a => Sys2Proof.Machine.execG2Neg d a s
  | .g2Smul d a b => Sys2Proof.Machine.execG2Smul d a b s
  | .g2Smulgls d a b => Sys2Proof.Machine.execG2Smulgls d a b s
  | .g2Toaff d a => Sys2Proof.Machine.execG2Toaff d a s
  | .g2Eq a b => Sys2Proof.Machine.execG2Eq a b s
  | .g2Psi d a => Sys2Proof.Machine.execG2Psi d a s
  | .g2Fromaff d a => Sys2Proof.Machine.execG2Fromaff d a s
  | .g2Ident d => Sys2Proof.Machine.execG2Ident d s
  | .linedbl d a b => Sys2Proof.Machine.execLinedbl d a b s
  | .lineadd d a b => Sys2Proof.Machine.execLineadd d a b s
  | .miller d a b => Sys2Proof.Machine.execMiller d a b s
  | .finexp d a => Sys2Proof.Machine.execFinexp d a s
  | .pair d a b => Sys2Proof.Machine.execPair d a b s
  | .latDecomp1 d a => Sys2Proof.Machine.execLatDecomp1 d a s
  | .latDecomp2 d a => Sys2Proof.Machine.execLatDecomp2 d a s

end Sys2Proof.Machine
end

