-- ==== Sys2Proof/Machine/Run.lean ====
section
/-! DEFINITION. What happens in one step: the command in flight runs, or an arrived host access is performed (60_exceptions.md R330;
20_memory.md R66, R69). -/

namespace Sys2Proof.Machine

/-- The command in flight runs to completion: it is decoded, and its rule runs, or ILLEGAL_COMMAND is raised
(60_exceptions.md R330; 30_encoding.md R102). -/
def runCommand (w : Word) (s : State) : Outcome :=
  match decode w with
  | .ok i => exec i s
  | .error _ => .next (s.raise .illegalCommand)

/-- A step while the command `w` is in flight: the accesses that are not held are performed at once, oldest first; with none of
them left the command's time runs, and at its end the command completes (20_memory.md R66; 60_exceptions.md R330, R331, R342).
Log entries 4 and 9. -/
def busyStep (w : Word) (s : State) : Outcome :=
  match takeUnheld s.pending with
  | some (x, rest) => performAccess x { s with pending := rest }
  | none =>
    match s.wait with
    | 0 => runCommand w s
    | n + 1 => .next { s with wait := n }

/-- A step with no command in flight: the oldest access is performed; with none the core does nothing (20_memory.md R69;
60_exceptions.md R331). Log entries 2 and 19. -/
def idleStep (s : State) : Outcome :=
  match s.pending with
  | [] => .next s
  | x :: rest => performAccess x { s with pending := rest }

/-- The state `s` with the command word `w` in flight and due: accepted, with no time left to run and no un-held access to answer
first (log entries 7 and 8). -/
def State.placeCommand (s : State) (w : Word) : State :=
  { s with done := false, inflight := some w, wait := 0, pending := s.pending.filter Access.held }

end Sys2Proof.Machine
end

