-- ==== Sys2Proof/Machine/Step.lean ====
section
/-! DEFINITION. One step of the core and its register block, and how the host's checks place a command where the next step runs it. -/

namespace Sys2Proof.Machine

/-- One step of the core: with a command in flight `busyStep`, without one `idleStep` (10_state.md R42; 20_memory.md R66, R69). -/
def step (s : State) : Host.Outcome State Fault Refusal :=
  match s.inflight with
  | some w => busyStep w s
  | none => idleStep s

/-- The state `s` with the opcode-table word `w` of `nbits` bits in flight and due, so that the next step runs it (log entries 7
and 8). -/
def State.withFetchWord (s : State) (nbits w : Nat) : State := s.placeCommand (BitVec.ofNat 64 (w % 2 ^ nbits))

end Sys2Proof.Machine
end

