-- ==== Sys2Proof/Safety.lean ====
section
/-! DEFINITION. What the statements about the core are said in: the state invariant, the field values and points that slots show,
when a command's operands pass its checks, and the three ways a command ends. -/

namespace Sys2Proof

/-- The command writes slots: its row of 30_encoding.md R101 uses D. The others are NOP and the seven equality commands. -/
def Instr.writesSlots (i : Instr) : Bool :=
  match formOf ((encode i).extractLsb' 0 8).toNat with
  | some r => r.usesD
  | none => false

/-- The destination operand of a command that writes slots (30_encoding.md R101). -/
def Instr.dest (i : Instr) : List (SlotNo × Kind) := if i.writesSlots then i.operands.take 1 else []

/-- The source operands of a command, A before B (30_encoding.md R101; 60_exceptions.md R322). -/
def Instr.sources (i : Instr) : List (SlotNo × Kind) := if i.writesSlots then i.operands.drop 1 else i.operands

end Sys2Proof

namespace Sys2Proof.Machine

/-! ### The invariant -/

/-- What holds of the core in every state: the FIFO is no longer than its depth (10_state.md R41); ERRCODE and ERRINFO are 0 while
ERR = 0 (R33, R35) and a code of 60_exceptions.md R320 while ERR = 1; a command error leaves DONE = 0 (R324); ERRINFO is an offset of
the block for ACCESS (R35); no command is in flight while ERR or DONE is 1 (R327, R330); and every arrived access is in the block
(20_memory.md R67). -/
structure State.Inv (s : State) : Prop where
  entropy : s.entropy.length ≤ Config.entDepth
  noError : s.err = false → s.errcode = 0 ∧ s.errinfo = 0
  errorCode : s.err = true → 1 ≤ s.errcode.toNat ∧ s.errcode.toNat ≤ 9
  commandError : s.err = true → s.errcode ≠ 9 → s.done = false
  accessError : s.err = true → s.errcode = 9 → s.errinfo.toNat < Config.blockSize
  running : s.busy = true → s.err = false ∧ s.done = false
  arrived : ∀ x ∈ s.pending, x.off < Config.blockSize

/-! ### What slots show -/

/-- Slot `n` is canonical for Fq (10_state.md R22). -/
abbrev State.canonFq (s : State) (n : Nat) : Prop := (s.slot n).toNat < Config.q

/-- Slot `n` is canonical for Fr: all of its 384 bits count (10_state.md R23). -/
abbrev State.canonFr (s : State) (n : Nat) : Prop := (s.slot n).toNat < Config.r

/-- The `k` slots from `n` are all canonical for Fq. -/
def State.allFq (s : State) (n k : Nat) : Bool := (List.range k).all fun j => decide ((s.slot (n + j)).toNat < Config.q)

/-- The Fq value slot `n` shows (10_state.md R22). -/
def State.fqAt (s : State) (n : Nat) : Fq := fqOfWord (s.slot n)

/-- The Fr value slot `n` shows (10_state.md R23). -/
def State.frAt (s : State) (n : Nat) : Fr := frOfWord (s.slot n)

/-- The Fq2 value at slots `n`, `n + 1` (10_state.md R24). -/
def State.fq2At (s : State) (n : Nat) : Fq2 := ⟨s.fqAt n, s.fqAt (n + 1)⟩

/-- The Fq6 value at six slots from `n` (10_state.md R24). -/
def State.fq6At (s : State) (n : Nat) : Fq6 := ⟨s.fq2At n, s.fq2At (n + 2), s.fq2At (n + 4)⟩

/-- The Fq12 value at twelve slots from `n` (10_state.md R24). -/
def State.fq12At (s : State) (n : Nat) : Fq12 := ⟨s.fq6At n, s.fq6At (n + 6)⟩

/-- The G1 point at three slots from `n` (10_state.md R25). -/
def State.g1At (s : State) (n : Nat) : G1 := ⟨s.fqAt n, s.fqAt (n + 1), s.fqAt (n + 2)⟩

/-- X, Y and Z of the G2 point at eight slots from `n` (10_state.md R26). -/
def State.g2At (s : State) (n : Nat) : G2 := ⟨s.fq2At n, s.fq2At (n + 2), s.fq2At (n + 4)⟩

/-! ### The checks of a command -/

/-- The error that reading an operand of a kind at slot `n` raises, if any (60_exceptions.md R321, R322): NONCANONICAL for a slot
out of its field, then, for a G2 point, T_INVARIANT unless T = Z·Z. Integer, exponent and raw operands raise none. -/
def State.kindError (s : State) (imm : Imm) (n : Nat) (k : Kind) : Option ErrCode :=
  match k with
  | .fr => if (s.slot n).toNat < Config.r then none else some .noncanonical
  | .g2 =>
    if s.allFq n 8 then
      (if s.fq2At (n + 6) = (s.fq2At (n + 4)).mul (s.fq2At (n + 4)) then none else some .tInvariant)
    else some .noncanonical
  | .u | .s2 | .s4 | .exp | .run | .const | .ld => none
  | .fq | .fq2 | .fq6 | .fq12 | .g1 | .af1 | .af2 | .sp6 | .sp12 | .la =>
    if s.allFq n (k.size imm) then none else some .noncanonical

/-- The first read error among operands in order (60_exceptions.md R322). -/
def State.readError (s : State) (imm : Imm) : List (SlotNo × Kind) → Option ErrCode
  | [] => none
  | o :: os =>
    match s.kindError imm o.1.toNat o.2 with
    | some c => some c
    | none => s.readError imm os

/-- The first error among the range check and the operand reads of a command (60_exceptions.md R322, steps 2 and 3). -/
def State.operandError (s : State) (i : Instr) : Option ErrCode :=
  if i.slotsOk then s.readError i.immField i.sources else some .slotRange

/-- The command passes the range check and every operand read. -/
abbrev State.Ready (s : State) (i : Instr) : Prop := s.operandError i = none

/-- Draw number `k` of FQ.RAND: six words, 381 bits (41_field_fq_fr.md R155). -/
def fqDraw (ws : List Word) (k : Nat) : Nat := wordsNat ((ws.drop (6 * k)).take 6) % 2 ^ 381

/-- Draw number `k` of FR.RAND: four words, 255 bits (41_field_fq_fr.md R168). -/
def frDraw (ws : List Word) (k : Nat) : Nat := wordsNat ((ws.drop (4 * k)).take 4) % 2 ^ 255

/-- The Miller value that PAIR computes for two points that are not identities (45_pairing.md R309). -/
def pairMiller (P : G1) (Q : G2) : Fq12 := millerValue (g1Aff P).1 (g1Aff P).2 (g2Aff Q).1 (g2Aff Q).2

/-- The error a command's one value check raises, its operands being readable (60_exceptions.md R320 to R322). -/
def State.valueError (s : State) (i : Instr) : Option ErrCode :=
  match i with
  | .fqInv _ a => if s.fqAt a.toNat = 0 then some .divisionByZero else none
  | .frInv _ a => if s.frAt a.toNat = 0 then some .divisionByZero else none
  | .fq2Inv _ a => if s.fq2At a.toNat = Fq2.zero then some .divisionByZero else none
  | .fq6Inv _ a => if s.fq6At a.toNat = Fq6.zero then some .divisionByZero else none
  | .fq12Inv _ a => if s.fq12At a.toNat = Fq12.zero then some .divisionByZero else none
  | .finexp _ a => if s.fq12At a.toNat = Fq12.zero then some .divisionByZero else none
  | .g1Toaff _ a => if (s.g1At a.toNat).z = 0 then some .divisionByZero else none
  | .g2Toaff _ a => if (s.g2At a.toNat).z = Fq2.zero then some .divisionByZero else none
  | .pair _ a b =>
    if (s.g1At a.toNat).z ≠ 0 ∧ (s.g2At b.toNat).z ≠ Fq2.zero ∧ pairMiller (s.g1At a.toNat) (s.g2At b.toNat) = Fq12.zero then
      some .divisionByZero
    else none
  | .fqFromint _ a => if Config.q ≤ (s.slot a.toNat).toNat then some .outOfBounds else none
  | .frFromint _ a => if Config.r ≤ (s.slot a.toNat).toNat then some .outOfBounds else none
  | .g1Smulglv _ _ b => if Config.r ≤ (s.slot b.toNat).toNat then some .scalarRange else none
  | .g2Smulgls _ _ b => if Config.r ≤ (s.slot b.toNat).toNat then some .scalarRange else none
  | .latDecomp1 _ a => if Config.r ≤ (s.slot a.toNat).toNat then some .scalarRange else none
  | .latDecomp2 _ a => if Config.r ≤ (s.slot a.toNat).toNat then some .scalarRange else none
  | .fqRand _ =>
    if (List.range (s.entropy.length / 6)).any fun k => fqDraw s.entropy k != 0 && decide (fqDraw s.entropy k < Config.q) then none
    else some .entropyExhausted
  | .frRand _ =>
    if (List.range (s.entropy.length / 4)).any fun k => frDraw s.entropy k != 0 && decide (frDraw s.entropy k < Config.r) then none
    else some .entropyExhausted
  | _ => none

/-! ### How a command ends -/

/-- `t` is `s` after a command completed: BUSY = 0, DONE = 1, and every other register, the enables, ERR, ERRCODE, ERRINFO and the
arrived accesses as before. Slots, EQ and the FIFO are said apart (60_exceptions.md R330). -/
structure State.Completed (s t : State) : Prop where
  inflight : t.inflight = none
  done : t.done = true
  doneIe : t.doneIe = s.doneIe
  errIe : t.errIe = s.errIe
  err : t.err = s.err
  errcode : t.errcode = s.errcode
  errinfo : t.errinfo = s.errinfo
  wait : t.wait = s.wait
  pending : t.pending = s.pending
  rdata : t.rdata = s.rdata

/-- `t` is `s` after a command raised error `c`: the record of 60_exceptions.md R324, with every slot, EQ, DONE, the enables and the
arrived accesses as before (R326). The FIFO is said apart. -/
structure State.Failed (c : ErrCode) (s t : State) : Prop where
  inflight : t.inflight = none
  err : t.err = true
  errcode : t.errcode = c.code
  errinfo : t.errinfo = s.inflight.getD 0
  done : t.done = s.done
  eq : t.eq = s.eq
  slots : t.slots = s.slots
  doneIe : t.doneIe = s.doneIe
  errIe : t.errIe = s.errIe
  wait : t.wait = s.wait
  pending : t.pending = s.pending
  rdata : t.rdata = s.rdata

/-- The slots of `t` from `d` on are `ws`, and every other slot is as in `s`. -/
def State.SlotsFrom (s t : State) (d : SlotNo) (ws : List SlotWord) : Prop :=
  (∀ k < ws.length, t.slot (d.toNat + k) = ws.getD k 0) ∧
  ∀ n, n < d.toNat ∨ d.toNat + ws.length ≤ n → t.slot n = s.slot n

/-- The command completes, writes exactly the words `ws` to the slots from `d`, and leaves EQ and the FIFO. -/
def State.Writes (s : State) (o : Outcome) (d : SlotNo) (ws : List SlotWord) : Prop :=
  ∃ t, o = .next t ∧ s.Completed t ∧ s.SlotsFrom t d ws ∧ t.eq = s.eq ∧ t.entropy = s.entropy

/-- The command completes, sets EQ to `b`, and leaves every slot and the FIFO. -/
def State.SetsEq (s : State) (o : Outcome) (b : Bool) : Prop :=
  ∃ t, o = .next t ∧ s.Completed t ∧ t.eq = b ∧ t.slots = s.slots ∧ t.entropy = s.entropy

/-- The command raises error `c` and leaves the FIFO. -/
def State.Fails (s : State) (o : Outcome) (c : ErrCode) : Prop :=
  ∃ t, o = .next t ∧ s.Failed c t ∧ t.entropy = s.entropy

/-! ### Words of a modulus, products by powers of w, and the opcodes -/

/-- The sum of two words below `m`: one conditional subtraction (41_field_fq_fr.md R142). -/
def addWord (m : Nat) (u v : SlotWord) : SlotWord :=
  BitVec.ofNat 384 (if u.toNat + v.toNat < m then u.toNat + v.toNat else u.toNat + v.toNat - m)

/-- The difference of two words below `m`: plus `m` if it borrowed (41_field_fq_fr.md R142). -/
def subWord (m : Nat) (u v : SlotWord) : SlotWord :=
  BitVec.ofNat 384 (if v.toNat ≤ u.toNat then u.toNat - v.toNat else u.toNat + m - v.toNat)

/-- The negative of a word below `m`: 0 for 0 (41_field_fq_fr.md R142). -/
def negWord (m : Nat) (u : SlotWord) : SlotWord := BitVec.ofNat 384 (if u.toNat = 0 then 0 else m - u.toNat)

/-- `w` is the Montgomery product of `u` and `v` for modulus `m` and radix `R`: (u·v·R^-1) mod m (41_field_fq_fr.md R140), said
without the inverse. -/
def MontProduct (m R : Nat) (u v w : SlotWord) : Prop := w.toNat < m ∧ w.toNat * R % m = u.toNat * v.toNat % m

/-- The exponent of `n` limbs from slot `b`, as 10_state.md R29 sums it. -/
def State.exponent (s : State) (b n : Nat) : Nat :=
  ∑ k ∈ Finset.range n, (limbOf (s.slot (b + k / 6)) (k % 6)).toNat * 2 ^ (64 * k)

/-- The coefficient of w^k in an Fq12 element, with y = w^2 (00_scope.md R13). -/
def Fq12.wCoeff (a : Fq12) (k : Nat) : Fq2 :=
  match k with
  | 0 => a.c0.c0
  | 1 => a.c1.c0
  | 2 => a.c0.c1
  | 3 => a.c1.c1
  | 4 => a.c0.c2
  | 5 => a.c1.c2
  | _ => Fq2.zero

/-- The coefficient of w^k in the product of two polynomials in w of degree 5, reduced by w^6 = xi (00_scope.md R13). -/
def wProduct (a b : Fq12) (k : Nat) : Fq2 :=
  (List.range 6).foldl (fun acc i =>
    acc.add (if i ≤ k then (a.wCoeff i).mul (b.wCoeff (k - i)) else ((a.wCoeff i).mul (b.wCoeff (k + 6 - i))).mulXi)) Fq2.zero

/-- The product of two Fq6 elements by the Karatsuba formula of 42_tower.md R180. -/
def fq6Karatsuba (a b : Fq6) : Fq6 :=
  letI := fq2Ops
  let v0 := a.c0 * b.c0
  let v1 := a.c1 * b.c1
  let v2 := a.c2 * b.c2
  ⟨Fq2.mulXi ((a.c1 + a.c2) * (b.c1 + b.c2) - v1 - v2) + v0,
   (a.c0 + a.c1) * (b.c0 + b.c1) - v0 - v1 + Fq2.mulXi v2,
   (a.c0 + a.c2) * (b.c0 + b.c2) - v0 - v2 + v1⟩

/-! ### Lines and the final exponentiation, as expressions in their inputs -/

/-- The line that LineDbl evaluates at (xP, yP), for T = Z^2: l0 = 6X^3 - 4Y^2, l1 = -6X^2·T·xP, l4 = 4YZ·T·yP
(45_pairing.md R300). -/
def tangentLine (R : G2) (xP yP : Fq) : Line where
  l0 := (((R.x.mul R.x).mul R.x).scale 6).sub ((R.y.mul R.y).scale 4)
  l1 := ((((R.x.mul R.x).mul (R.z.mul R.z)).scale 6).neg).scale xP
  l4 := (((R.y.mul R.z).mul (R.z.mul R.z)).scale 4).scale yP

/-- H = xQ·Z^2 - X, the first difference of LineAdd (45_pairing.md R301, t2). -/
def chordRun (R : G2) (xQ : Fq2) : Fq2 := (xQ.mul (R.z.mul R.z)).sub R.x

/-- 2·(yQ·Z^3 - Y), the second difference of LineAdd (45_pairing.md R301, t6). -/
def chordRise (R : G2) (yQ : Fq2) : Fq2 := ((yQ.mul ((R.z.mul R.z).mul R.z)).sub R.y).scale 2

/-- The point of LineAdd, for H and S the two differences: XT = S^2 - 4H^3 - 8XH^2, YT = S·(4XH^2 - XT) - 8YH^3, ZT = 2ZH
(45_pairing.md R301). -/
def chordPoint (R : G2) (xQ yQ : Fq2) : G2 :=
  let H := chordRun R xQ
  let S := chordRise R yQ
  let XHH := R.x.mul (H.mul H)
  let HHH := (H.mul H).mul H
  let XT := ((S.mul S).sub (HHH.scale 4)).sub (XHH.scale 8)
  ⟨XT, (S.mul ((XHH.scale 4).sub XT)).sub ((R.y.mul HHH).scale 8), (R.z.mul H).scale 2⟩

/-- The line that LineAdd evaluates at (xP, yP): l0 = 2·S·xQ - 2·yQ·ZT, l1 = -2·S·xP, l4 = 2·ZT·yP, with ZT = 2ZH
(45_pairing.md R301). -/
def chordLine (R : G2) (xQ yQ : Fq2) (xP yP : Fq) : Line where
  l0 := (((chordRise R yQ).mul xQ).scale 2).sub ((yQ.mul (R.z.mul (chordRun R xQ))).scale 4)
  l1 := (((chordRise R yQ).scale 2).neg).scale xP
  l4 := ((R.z.mul (chordRun R xQ)).scale 4).scale yP

/-- The value of the chain of the final exponentiation with its steps gathered: with x = |u|, g the easy part, a = g^((x+1)^2) and
d = a^(x^2)·conj(a), it is Frob(a, 3)·Frob(conj(a^x), 2)·conj(d^x)·g^3·Frob(d, 1) (45_pairing.md R307). -/
def gatheredChain (g : Fq12) : Fq12 :=
  let x := 0xd201000000010000
  let a := g.exp ((x + 1) ^ 2)
  let d := (a.exp (x ^ 2)).mul a.conj
  ((((a.frob 3).mul ((a.exp x).conj.frob 2)).mul (d.exp x).conj).mul (g.exp 3)).mul (d.frob 1)

/-- The ranges of the opcodes of 30_encoding.md R101, first and last. -/
def opcodeRanges : List (Nat × Nat) :=
  [(0x00, 0x03), (0x10, 0x1A), (0x20, 0x2A), (0x30, 0x39), (0x40, 0x49), (0x50, 0x5A), (0x60, 0x69), (0x70, 0x79),
   (0x80, 0x84), (0x90, 0x91)]

/-- A word is no command: high bits, reserved OP, a field of the row left unused that is not zero, or an LDC index above 13
(60_exceptions.md R321). -/
def IllegalWord (w : Word) : Prop :=
  w.extractLsb' 40 24 ≠ 0 ∨
  (∀ r ∈ opcodeRanges, ¬ (r.1 ≤ (w.extractLsb' 0 8).toNat ∧ (w.extractLsb' 0 8).toNat ≤ r.2)) ∨
  (∃ r, formOf (w.extractLsb' 0 8).toNat = some r ∧
    ((r.usesD = false ∧ w.extractLsb' 8 8 ≠ 0) ∨ (r.usesA = false ∧ w.extractLsb' 16 8 ≠ 0) ∨
     (r.usesB = false ∧ w.extractLsb' 24 8 ≠ 0) ∨ (r.usesImm = false ∧ w.extractLsb' 32 8 ≠ 0))) ∨
  (w.extractLsb' 0 8 = 0x01 ∧ 13 < (w.extractLsb' 32 8).toNat)

/-! ### The curves -/

/-- (X, Y, Z) meets Y^2 = X^3 + 4·Z^6, the equation of E1 in Jacobian coordinates (00_scope.md R12; 10_state.md R25). -/
def g1OnCurve (P : G1) : Prop :=
  P.y * P.y = P.x * P.x * P.x + twice (twice (P.z * P.z * P.z * P.z * P.z * P.z))

/-- (X, Y, Z) meets Y^2 = X^3 + 4·(1 + i)·Z^6, the equation of E2 in Jacobian coordinates (00_scope.md R12; 10_state.md R26). -/
def g2OnCurve (P : G2) : Prop :=
  letI := fq2Ops
  P.y * P.y = P.x * P.x * P.x + twice (twice (Fq2.mulXi (P.z * P.z * P.z * P.z * P.z * P.z)))

end Sys2Proof.Machine
end

