-- ==== Sys2Proof/Certificates/Slice0/Obligations.lean ====
section
/-! DEFINITION. The statements about the core that are to be proved. Each docstring names the rules of spec/ it formalises. -/

open Sys2Proof Sys2Proof.Machine

/-! ### Encoding -/

/-- Every command with a legal word is read back from its word, with every field at every value (30_encoding.md R90, R94, R101). -/
def Obligations.DecodeOfEncodeIsTheCommand : Prop :=
  ∀ i : Instr, i.wellFormed = true → decode (encode i) = .ok i

/-- A word that decodes is the one word of its command, and the command is well formed: no bit is ignored
(30_encoding.md R92, R94, R102). -/
def Obligations.DecodedWordIsTheOneEncoding : Prop :=
  ∀ (w : Word) (i : Instr), decode w = .ok i → encode i = w ∧ i.wellFormed = true

/-- Words of the spec's own examples decode to the commands they stand for (95_test_vectors.md). -/
def Obligations.SpecWordsDecode : Prop :=
  decode 0x0000000000000000 = .ok .nop ∧
  decode 0x0000000400000301 = .ok (.ldc 3 4) ∧
  decode 0x0000000003020413 = .ok (.fqMul 4 2 3) ∧
  decode 0x0000000000000128 = .ok (.frToint 1 0) ∧
  decode 0x00000001000C0058 = .ok (.fq12Frob 0 12 1) ∧
  decode 0x00000004170B185A = .ok (.fq12Exp 24 11 23 4) ∧
  decode 0x0000000007040066 = .ok (.g1Eq 4 7) ∧
  decode 0x0000000008001174 = .ok (.g2Smulgls 17 0 8) ∧
  decode 0x00000000030B1684 = .ok (.pair 22 11 3) ∧
  decode 0x0000000000030A91 = .ok (.latDecomp2 10 3)

/-- A word is illegal exactly when it has high bits, a reserved OP, a non-zero unused field or an LDC index above 13; running it
raises ILLEGAL_COMMAND. Every other word is the word of a command (60_exceptions.md R321; 30_encoding.md R92, R94, R95, R103). -/
def Obligations.IllegalWordsRaiseIllegalCommand : Prop :=
  ∀ (w : Word) (s : State),
    (IllegalWord w → s.Fails (runCommand w s) .illegalCommand) ∧
    (¬ IllegalWord w → ∃ i, encode i = w ∧ runCommand w s = exec i s)

/-! ### The step -/

/-- With a command in flight and due and no access to answer first, the step is the command that the word decodes to
(60_exceptions.md R330). That accesses which are not held are answered first is log entry 9. -/
def Obligations.StepRunsTheDecodedCommand : Prop :=
  ∀ (s : State) (w : Word) (i : Instr), s.inflight = some w → s.wait = 0 → (∀ x ∈ s.pending, x.held = true) →
    decode w = .ok i → step s = exec i s

/-- The state after power-on meets the invariant, whatever the slots hold, and so does the state the model resets to
(10_state.md R46). That the latter's slots are zero is log entry 1, and nothing here rests on it. -/
def Obligations.PowerOnMeetsTheInvariant : Prop :=
  (∀ contents : Vector SlotWord 256, (State.powerOn contents).Inv) ∧ State.reset.Inv

/-- From every state that meets the invariant the core takes a step, and it keeps the invariant. -/
def Obligations.EveryStepCompletesAndKeepsTheInvariant : Prop :=
  ∀ s : State, s.Inv → ∃ t, step s = .next t ∧ t.Inv

/-- Accesses that arrive keep the invariant. An access that lies outside [BASE, BASE + 0x4000) changes nothing; an aligned 8-byte access
to the block arrives as the youngest one. Of an access of n > 1 times 8 bytes arrive either those of its 8-byte beats that are in the
block, lowest address first and wherever the access starts, or, if its address is in the block, the one access of its width
(20_memory.md R62, R67, R69). Which of the two is the platform's bus (log entry 5). -/
def Obligations.ArrivingAccessesKeepTheInvariant : Prop :=
  ∀ (s : State) (addr width v : Nat),
    (s.Inv → (s.hostRead addr width).Inv ∧ (s.hostWrite addr width v).Inv) ∧
    ((addr < Config.base ∧ addr + width ≤ Config.base ∨ Config.base + 0x4000 ≤ addr) →
      s.hostRead addr width = s ∧ s.hostWrite addr width v = s) ∧
    (∀ off < 0x4000, s.hostRead (Config.base + off) 8 = { s with pending := s.pending ++ [.read off 8] } ∧
      s.hostWrite (Config.base + off) 8 v = { s with pending := s.pending ++ [.write off 8 (BitVec.ofNat 64 v)] }) ∧
    ∀ n, 1 < n →
      let seen := fun x : Nat => Config.base ≤ x ∧ x < Config.base + 0x4000
      (s.hostRead addr (8 * n) =
          { s with pending := s.pending ++ (List.range n).filterMap fun k =>
              if seen (addr + 8 * k) then some (.read (addr + 8 * k - Config.base) 8) else none } ∧
        s.hostWrite addr (8 * n) v =
          { s with pending := s.pending ++ (List.range n).filterMap fun k =>
              if seen (addr + 8 * k) then some (.write (addr + 8 * k - Config.base) 8 (BitVec.ofNat 64 (v / 2 ^ (64 * k)))) else none }) ∨
      (s.hostRead addr (8 * n) =
          (if seen addr then { s with pending := s.pending ++ [.read (addr - Config.base) (8 * n)] } else s) ∧
        s.hostWrite addr (8 * n) v =
          (if seen addr then { s with pending := s.pending ++ [.write (addr - Config.base) (8 * n) (BitVec.ofNat 64 v)] } else s))

/-- The power-on column of 10_state.md R46: enables, BUSY, DONE, ERR, ERRCODE, EQ, ERRINFO and IRQ are 0, the FIFO is empty, no
command is in flight, ID reads its constant; the slots are whatever they are. -/
def Obligations.PowerOnState : Prop :=
  ∀ contents : Vector SlotWord 256,
    let s := State.powerOn contents
    s.slots = contents ∧ s.doneIe = false ∧ s.errIe = false ∧ s.busy = false ∧ s.done = false ∧ s.err = false ∧
    s.errcode = 0 ∧ s.eq = false ∧ s.errinfo = 0 ∧ s.entropy = [] ∧ s.inflight = none ∧ s.irq = false ∧
    s.busRead 0x000 = 0x00000040FF010381 ∧ s.busRead 0x008 = 0 ∧ s.busRead 0x010 = 0 ∧ s.busRead 0x020 = 0 ∧ s.busRead 0x030 = 0

/-- A performed CTRL write with bit 2 set is the soft reset: enables, DONE, ERR, ERRCODE, EQ, ERRINFO and the FIFO are cleared
whatever bits [1:0] are; slots and everything else stay. A CTRL write is held while a command runs
(70_reset_and_hazards.md R361). -/
def Obligations.SoftResetClearsAllButTheSlots : Prop :=
  ∀ (s : State) (v : Word), v.getLsbD 2 = true →
    (Access.write 0x008 8 v).held = true ∧
    performAccess (.write 0x008 8 v) s = .next
      { slots := s.slots, doneIe := false, errIe := false, done := false, err := false, eq := false, errcode := 0, errinfo := 0,
        entropy := [], inflight := s.inflight, wait := s.wait, pending := s.pending, rdata := s.rdata }

/-! ### The register block -/

/-- CTRL: a write with SRST = 0 sets DONE_IE and ERR_IE from bits [1:0] and nothing else; CTRL reads them back with SRST and the
reserved bits 0 (10_state.md R32). -/
def Obligations.CtrlHoldsTheEnables : Prop :=
  ∀ (s : State) (v : Word),
    (v.getLsbD 2 = false → performAccess (.write 0x008 8 v) s = .next { s with doneIe := v.getLsbD 0, errIe := v.getLsbD 1 }) ∧
    ∀ k < 64, (s.busRead 0x008).getLsbD k = (if k = 0 then s.doneIe else if k = 1 then s.errIe else false)

/-- STATUS reads BUSY, DONE, ERR, EQ and ERRCODE at their bits and 0 elsewhere; a write clears DONE by bit 1, ERR with ERRCODE and
ERRINFO by bit 2, and ignores every other bit (10_state.md R33). -/
def Obligations.StatusReadsFieldsAndClearsByOnes : Prop :=
  ∀ (s : State) (v : Word),
    (∀ k < 64, (s.busRead 0x010).getLsbD k =
      (if k = 0 then s.inflight.isSome else if k = 1 then s.done else if k = 2 then s.err else if k = 3 then s.eq
        else if k < 8 then false else s.errcode.getLsbD (k - 8))) ∧
    performAccess (.write 0x010 8 v) s = .next
      { s with
        done := s.done && !v.getLsbD 1
        err := s.err && !v.getLsbD 2
        errcode := if v.getLsbD 2 then 0 else s.errcode
        errinfo := if v.getLsbD 2 then 0 else s.errinfo }

/-- IRQ = (STATUS.DONE and CTRL.DONE_IE) or (STATUS.ERR and CTRL.ERR_IE), said of the words the host reads (10_state.md R43). -/
def Obligations.IrqIsTheLevelOfStatusAndCtrl : Prop :=
  ∀ s : State, s.irq =
    (((s.busRead 0x010).getLsbD 1 && (s.busRead 0x008).getLsbD 0) || ((s.busRead 0x010).getLsbD 2 && (s.busRead 0x008).getLsbD 1))

/-- An ENTROPY write appends its word if fewer than 64 are queued, and is dropped otherwise, with no error; ENTLEVEL reads the number
of queued words (10_state.md R36, R37). -/
def Obligations.EntropyWritesQueueWords : Prop :=
  ∀ (s : State) (v : Word),
    (s.entropy.length < 64 → performAccess (.write 0x028 8 v) s = .next { s with entropy := s.entropy ++ [v] }) ∧
    (64 ≤ s.entropy.length → performAccess (.write 0x028 8 v) s = .next s) ∧
    (s.entropy.length ≤ 64 → (s.busRead 0x030).toNat = s.entropy.length) ∧
    s.busRead 0x028 = 0

/-- An aligned access at 0x1000 + 48·n + 8·l reads limb l of slot n, bits [64l+63:64l]; a write of any value sets those bits of that
slot, and leaves every other bit of it, every other slot and all other state. Every aligned offset from 0x1000 to 0x3FFF is one of
these: the window has no gaps (20_memory.md R64; 10_state.md R20). -/
def Obligations.SlotWindowReachesOneLimb : Prop :=
  (∀ (s : State) (n l : Nat) (v : Word), n < 256 → l < 6 →
    performAccess (.read (0x1000 + 48 * n + 8 * l) 8) s = .next { s with rdata := (s.slot n).extractLsb' (64 * l) 64 } ∧
    ∃ t, performAccess (.write (0x1000 + 48 * n + 8 * l) 8 v) s = .next t ∧ t = { s with slots := t.slots } ∧
      (∀ m, m ≠ n → t.slot m = s.slot m) ∧
      ∀ k < 384, (t.slot n).getLsbD k = if 64 * l ≤ k ∧ k < 64 * l + 64 then v.getLsbD (k - 64 * l) else (s.slot n).getLsbD k) ∧
  ∀ off, 0x1000 ≤ off → off < 0x4000 → off % 8 = 0 → ∃ n l, n < 256 ∧ l < 6 ∧ off = 0x1000 + 48 * n + 8 * l

/-- Byte j of slot n, at offset 0x1000 + 48·n + j, carries bits [8j+7:8j] of the slot; byte k of an 8-byte register carries its bits
[8k+7:8k]; and the command that eight bytes written to CMD make is that of the word whose bits [8k+7:8k] byte k carries
(20_memory.md R61). -/
def Obligations.BlockBytesAreLittleEndian : Prop :=
  (∀ s : State,
    (∀ n < 256, ∀ j < 48, s.blockByte (0x1000 + 48 * n + j) = (s.slot n).extractLsb' (8 * j) 8) ∧
    ∀ off, off % 8 = 0 → ∀ k < 8, s.blockByte (off + k) = (s.busRead off).extractLsb' (8 * k) 8) ∧
  ∀ w : Word, decodeBytes ((List.range 8).map fun k => w.extractLsb' (8 * k) 8) = decode w

/-- An access in the block that is not 8 bytes wide or not 8-byte aligned is not performed: a read returns 0 and a write changes
nothing, but that ACCESS is recorded with the offset if ERR = 0 (20_memory.md R62). -/
def Obligations.NarrowOrMisalignedAccessRecordsAccess : Prop :=
  ∀ (s : State) (off width : Nat) (v : Word), off < 0x4000 → (width ≠ 8 ∨ off % 8 ≠ 0) →
    (s.err = true →
      performAccess (.read off width) s = .next { s with rdata := 0 } ∧ performAccess (.write off width v) s = .next s) ∧
    (s.err = false →
      performAccess (.read off width) s =
        .next { s with rdata := 0, err := true, errcode := 9, errinfo := BitVec.ofNat 64 off } ∧
      performAccess (.write off width v) s = .next { s with err := true, errcode := 9, errinfo := BitVec.ofNat 64 off })

/-- A performed read changes no state but what the bus returned, and a second read returns the same (20_memory.md R65). -/
def Obligations.ReadsHaveNoSideEffect : Prop :=
  ∀ (s : State) (off : Nat), off < 0x4000 → off % 8 = 0 →
    ∃ v, performAccess (.read off 8) s = .next { s with rdata := v } ∧
      ∀ off', off' < 0x4000 → off' % 8 = 0 →
        ∃ v', performAccess (.read off' 8) { s with rdata := v } = .next { s with rdata := v' } ∧
          performAccess (.read off 8) { s with rdata := v' } = .next { s with rdata := v }

/-- Writes to ID, ERRINFO, ENTLEVEL and the reserved offsets are ignored with no error; CMD, ENTROPY and the reserved offsets read 0;
ID reads its constant (10_state.md R31, R34, R35, R37, R38). -/
def Obligations.ReadOnlyAndReservedOffsets : Prop :=
  ∀ (s : State) (off : Nat) (v : Word), off % 8 = 0 →
    (off = 0x000 ∨ off = 0x020 ∨ (0x030 ≤ off ∧ off < 0x1000) → performAccess (.write off 8 v) s = .next s) ∧
    (off = 0x018 ∨ off = 0x028 ∨ (0x038 ≤ off ∧ off < 0x1000) → s.busRead off = 0) ∧
    s.busRead 0x000 = 0x00000040FF010381 ∧ s.busRead 0x020 = s.errinfo

/-- A performed CMD write is discarded while ERR = 1; otherwise DONE <- 0 and the word is in flight, and nothing else changes but the
time the command will take (60_exceptions.md R327, R330). -/
def Obligations.CommandWriteIsAcceptedOrDiscarded : Prop :=
  ∀ (s : State) (v : Word),
    (s.err = true → performAccess (.write 0x018 8 v) s = .next s) ∧
    (s.err = false → ∃ n, performAccess (.write 0x018 8 v) s = .next { s with done := false, inflight := some v, wait := n })

/-- While a command runs, exactly the slot-window accesses, the writes to CTRL, STATUS, CMD and ENTROPY and the improper accesses are
held; the other accesses, reads and writes without effect, are performed at once, the oldest first; with none of these left only time
passes. With no command the oldest access is performed (20_memory.md R66, R69). Answering the un-held accesses before the command
completes is log entry 9, the unlisted writes log entry 20, the step with nothing to do log entry 19. -/
def Obligations.RunningCommandHoldsAccesses : Prop :=
  (∀ (s : State) (w : Word) (pre post : List Access) (off : Nat), s.inflight = some w → (∀ x ∈ pre, x.held = true) →
    off % 8 = 0 → off < 0x1000 →
    (s.pending = pre ++ .read off 8 :: post → step s = .next { s with pending := pre ++ post, rdata := s.busRead off }) ∧
    ∀ v, s.pending = pre ++ .write off 8 v :: post → off ∉ [0x008, 0x010, 0x018, 0x028] →
      step s = .next { s with pending := pre ++ post }) ∧
  (∀ (s : State) (w : Word) (n : Nat), s.inflight = some w → (∀ x ∈ s.pending, x.held = true) → s.wait = n + 1 →
    step s = .next { s with wait := n }) ∧
  (∀ (s : State) (x : Access) (rest : List Access), s.inflight = none → s.pending = x :: rest →
    step s = performAccess x { s with pending := rest }) ∧
  (∀ s : State, s.inflight = none → s.pending = [] → step s = .next s) ∧
  ∀ (off width : Nat) (v : Word),
    ((Access.read off width).held = true ↔ 0x1000 ≤ off ∨ width ≠ 8 ∨ off % 8 ≠ 0) ∧
    ((Access.write off width v).held = true ↔
      0x1000 ≤ off ∨ width ≠ 8 ∨ off % 8 ≠ 0 ∨ off ∈ [0x008, 0x010, 0x018, 0x028])

/-- From every state that meets the invariant with a command in flight, some number of steps leads to BUSY = 0, with exactly the held
accesses still waiting, in their order (70_reset_and_hazards.md R372; 20_memory.md R66). -/
def Obligations.EveryCommandCompletesInFiniteTime : Prop :=
  ∀ s : State, s.Inv → s.busy = true →
    ∃ (k : Nat) (t : State), Host.Core.run Sys2Proof.core k s = .next t ∧ t.busy = false ∧ t.pending = s.pending.filter Access.held

/-- The host's STATUS write with bit 2 set clears ERR, ERRCODE and ERRINFO, and so does its soft reset; ERR goes from 1 to 0 in a step
only where one of the two is performed (60_exceptions.md R328). -/
def Obligations.OnlyTheHostClearsErr : Prop :=
  (∀ (s : State) (v : Word) (off : Nat), v.getLsbD 2 = true → off = 0x008 ∨ off = 0x010 →
    ∃ t, performAccess (.write off 8 v) s = .next t ∧ t.err = false ∧ t.errcode = 0 ∧ t.errinfo = 0) ∧
  ∀ s t : State, step s = .next t → s.err = true → t.err = false →
    ∃ (off : Nat) (v : Word) (rest : List Access), s.inflight = none ∧ s.pending = .write off 8 v :: rest ∧
      (off = 0x008 ∨ off = 0x010) ∧ v.getLsbD 2 = true

/-- A slot changes in a step only where a command completes whose destination it is in, or a host write to its window is performed
(10_state.md R42; 00_scope.md R17). -/
def Obligations.SlotsChangeOnlyByCompletionOrWindowWrite : Prop :=
  ∀ (s t : State) (n : Nat), step s = .next t → t.slot n ≠ s.slot n →
    (∃ (w : Word) (i : Instr), s.inflight = some w ∧ s.wait = 0 ∧ decode w = .ok i ∧ t.inflight = none ∧ t.done = true ∧
      ∃ o ∈ i.dest, o.1.toNat ≤ n ∧ n < o.1.toNat + o.2.size i.immField) ∨
    (∃ (off : Nat) (v : Word) (rest : List Access), s.inflight = none ∧ s.pending = .write off 8 v :: rest ∧
      0x1000 + 48 * n ≤ off ∧ off < 0x1000 + 48 * n + 48)

/-! ### Errors, over all commands -/

/-- The checks before a command computes, for every command: SLOT_RANGE for the operands in order, then for each source operand in
order NONCANONICAL and, for a G2 point, T_INVARIANT. The first that applies is raised and nothing is written
(60_exceptions.md R322; 30_encoding.md R97). -/
def Obligations.FirstOperandErrorIsRaised : Prop :=
  ∀ (s : State) (i : Instr) (c : ErrCode), i.wellFormed = true → s.operandError i = some c → s.Fails (exec i s) c

/-- With readable operands, the value checks raise DIVISION_BY_ZERO for an inversion of zero (the inversions, TOAFF of an identity,
FINEXP of 0, PAIR with a zero Miller value), OUT_OF_BOUNDS for FROMINT of an integer not below the modulus, and SCALAR_RANGE for a
scalar not below r (60_exceptions.md R320, R321). -/
def Obligations.ValueChecksRaiseTheirError : Prop :=
  ∀ (s : State) (i : Instr) (c : ErrCode), s.Ready i → s.valueError i = some c → c ≠ .entropyExhausted → s.Fails (exec i s) c

/-- Every command with a legal word whose operands and value pass the checks completes: BUSY <- 0, DONE <- 1, and ERR, ERRCODE,
ERRINFO, the enables and the arrived accesses stay (60_exceptions.md R330). -/
def Obligations.EveryCommandCompletesUnlessACheckFails : Prop :=
  ∀ (s : State) (i : Instr), i.wellFormed = true → s.Ready i → s.valueError i = none → ∃ t, exec i s = .next t ∧ s.Completed t

/-- What no command changes: slots outside its destination; EQ, unless it is one of the seven equality commands; the FIFO, unless it
is FQ.RAND or FR.RAND; the enables, the arrived accesses and what the bus returned (10_state.md R39; 60_exceptions.md R326, R330). -/
def Obligations.EveryCommandKeepsWhatItDoesNotWrite : Prop :=
  ∀ (s t : State) (i : Instr), exec i s = .next t →
    (∀ n, (∀ o ∈ i.dest, n < o.1.toNat ∨ o.1.toNat + o.2.size i.immField ≤ n) → t.slot n = s.slot n) ∧
    (i.writesSlots = true → t.eq = s.eq) ∧ (i = .nop → t.eq = s.eq) ∧
    ((∀ d, i ≠ .fqRand d ∧ i ≠ .frRand d) → t.entropy = s.entropy) ∧
    t.doneIe = s.doneIe ∧ t.errIe = s.errIe ∧ t.pending = s.pending ∧ t.rdata = s.rdata ∧ t.inflight = none

/-- A command word that raises an error records the code and the word itself and writes no slot, no EQ, no DONE and no other register;
only FQ.RAND and FR.RAND, and only with ENTROPY_EXHAUSTED, leave fewer words in the FIFO (60_exceptions.md R324, R326). -/
def Obligations.ErrorsWriteNothing : Prop :=
  ∀ (s t : State) (w : Word), runCommand w s = .next t → s.inflight = some w → s.err = false → t.err = true →
    t.errinfo = w ∧ ∃ c, s.Failed c t ∧
      (t.entropy = s.entropy ∨
        (c = .entropyExhausted ∧ (∃ d, decode w = .ok (.fqRand d) ∨ decode w = .ok (.frRand d)) ∧
          ∃ k, t.entropy = s.entropy.drop k))

/-! ### Control commands -/

/-- NOP only completes; MOV copies a run read before any write, raw, and CLR writes zeros; both raise SLOT_RANGE for a run past slot
255 (40_control.md R130, R133, R134). -/
def Obligations.NopMovClr : Prop :=
  ∀ (s : State) (d a : SlotNo) (imm : Imm),
    (encode .nop = 0 ∧ encode (.mov d a imm) = encodeWord 0x02 d a 0 imm ∧ encode (.clr d imm) = encodeWord 0x03 d 0 0 imm) ∧
    s.Writes (exec .nop s) 0 [] ∧
    (d.toNat + imm.toNat ≤ 255 → a.toNat + imm.toNat ≤ 255 →
      s.Writes (exec (.mov d a imm) s) d ((List.range (imm.toNat + 1)).map fun k => s.slot (a.toNat + k))) ∧
    ((255 < d.toNat + imm.toNat ∨ 255 < a.toNat + imm.toNat) → s.Fails (exec (.mov d a imm) s) .slotRange) ∧
    (d.toNat + imm.toNat ≤ 255 → s.Writes (exec (.clr d imm) s) d (List.replicate (imm.toNat + 1) 0)) ∧
    (255 < d.toNat + imm.toNat → s.Fails (exec (.clr d imm) s) .slotRange)

/-- LDC writes the constants of 40_control.md R131 through the views they name: FQ_ONE, FR_ONE, FQ12_ONE, the generators and
identities with T = Z^2, the moduli and |u| as integers, beta, cx, cy and xi; a constant that runs past slot 255 raises SLOT_RANGE and
an index above 13 ILLEGAL_COMMAND (R132). -/
def Obligations.LdcWritesTheRomConstants : Prop :=
  ∀ (s : State) (d : SlotNo),
    (∀ imm : Imm, encode (.ldc d imm) = encodeWord 0x01 d 0 0 imm ∧
      (imm.toNat ≤ 13 → 256 < d.toNat + constSize imm → s.Fails (exec (.ldc d imm) s) .slotRange) ∧
      (13 < imm.toNat → s.Fails (runCommand (encodeWord 0x01 d 0 0 imm) s) .illegalCommand)) ∧
    s.Writes (exec (.ldc d 0) s) d (fqWords 1) ∧
    s.Writes (exec (.ldc d 1) s) d (frWords 1) ∧
    (d.toNat + 12 ≤ 256 → s.Writes (exec (.ldc d 2) s) d (fq12Words Fq12.one)) ∧
    (d.toNat + 3 ≤ 256 → s.Writes (exec (.ldc d 3) s) d (g1Words g1Gen) ∧ s.Writes (exec (.ldc d 5) s) d (g1Words ⟨1, 1, 0⟩)) ∧
    (d.toNat + 8 ≤ 256 → s.Writes (exec (.ldc d 4) s) d (fq2Words g2Gen.x ++ fq2Words g2Gen.y ++ fq2Words ⟨1, 0⟩ ++ fq2Words ⟨1, 0⟩) ∧
      s.Writes (exec (.ldc d 6) s) d (fq2Words ⟨1, 0⟩ ++ fq2Words ⟨1, 0⟩ ++ fq2Words ⟨0, 0⟩ ++ fq2Words ⟨0, 0⟩)) ∧
    s.Writes (exec (.ldc d 7) s) d [BitVec.ofNat 384 Config.q] ∧
    s.Writes (exec (.ldc d 8) s) d [BitVec.ofNat 384 Config.r] ∧
    s.Writes (exec (.ldc d 9) s) d [BitVec.ofNat 384 0xd201000000010000] ∧
    s.Writes (exec (.ldc d 10) s) d (fqWords beta) ∧
    (d.toNat + 2 ≤ 256 → s.Writes (exec (.ldc d 11) s) d (fq2Words psiCx) ∧ s.Writes (exec (.ldc d 12) s) d (fq2Words psiCy) ∧
      s.Writes (exec (.ldc d 13) s) d (fq2Words ⟨1, 1⟩))

/-! ### Fq and Fr -/

/-- The Montgomery views: a canonical word w shows the x with x·R ≡ w, and x is stored as (x·R) mod m, canonical; reading back what
was stored gives the value, and storing what was read gives the word (10_state.md R22, R23). The Montgomery constants of the ROM are
those of the views: R mod m is the word of 1, R^2 mod m that of R, and m'·m ≡ -1 modulo 2^64 (41_field_fq_fr.md R140). -/
def Obligations.MontgomeryViewsRoundTrip : Prop :=
  (∀ w : SlotWord, w.toNat < Config.q → (fqOfWord w).val * 2 ^ 384 % Config.q = w.toNat ∧ fqToWord (fqOfWord w) = w) ∧
  (∀ x : Fq, (fqToWord x).toNat = x.val * 2 ^ 384 % Config.q ∧ fqOfWord (fqToWord x) = x) ∧
  (∀ w : SlotWord, w.toNat < Config.r → (frOfWord w).val * 2 ^ 256 % Config.r = w.toNat ∧ frToWord (frOfWord w) = w) ∧
  (∀ x : Fr, (frToWord x).toNat = x.val * 2 ^ 256 % Config.r ∧ frOfWord (frToWord x) = x) ∧
  (montOneQ = fqToWord 1 ∧ montOneR = frToWord 1 ∧ montSquareQ = fqToWord (Fin.ofNat Config.q (2 ^ 384)) ∧
    montSquareR = frToWord (Fin.ofNat Config.r (2 ^ 256)) ∧
    (montPrimeQ.toNat * Config.q + 1) % 2 ^ 64 = 0 ∧ (montPrimeR.toNat * Config.r + 1) % 2 ^ 64 = 0)

/-- ADD, SUB and NEG of Fq and Fr: on canonical slot words the slot-level computations of 41_field_fq_fr.md R142, which are the sum,
difference and negative of the field values; on any other words NONCANONICAL (R145 to R147, R158 to R160). -/
def Obligations.FieldAddSubNegOnSlotWords : Prop :=
  ∀ (s : State) (d a b : SlotNo),
    (encode (.fqAdd d a b) = encodeWord 0x10 d a b 0 ∧ encode (.fqSub d a b) = encodeWord 0x11 d a b 0 ∧
      encode (.fqNeg d a) = encodeWord 0x12 d a 0 0 ∧ encode (.frAdd d a b) = encodeWord 0x20 d a b 0 ∧
      encode (.frSub d a b) = encodeWord 0x21 d a b 0 ∧ encode (.frNeg d a) = encodeWord 0x22 d a 0 0) ∧
    (s.canonFq a.toNat →
      fqToWord (-s.fqAt a.toNat) = negWord Config.q (s.slot a.toNat) ∧
      s.Writes (exec (.fqNeg d a) s) d [negWord Config.q (s.slot a.toNat)] ∧
      (s.canonFq b.toNat →
        fqToWord (s.fqAt a.toNat + s.fqAt b.toNat) = addWord Config.q (s.slot a.toNat) (s.slot b.toNat) ∧
        fqToWord (s.fqAt a.toNat - s.fqAt b.toNat) = subWord Config.q (s.slot a.toNat) (s.slot b.toNat) ∧
        s.Writes (exec (.fqAdd d a b) s) d [addWord Config.q (s.slot a.toNat) (s.slot b.toNat)] ∧
        s.Writes (exec (.fqSub d a b) s) d [subWord Config.q (s.slot a.toNat) (s.slot b.toNat)])) ∧
    (s.canonFr a.toNat →
      frToWord (-s.frAt a.toNat) = negWord Config.r (s.slot a.toNat) ∧
      s.Writes (exec (.frNeg d a) s) d [negWord Config.r (s.slot a.toNat)] ∧
      (s.canonFr b.toNat →
        frToWord (s.frAt a.toNat + s.frAt b.toNat) = addWord Config.r (s.slot a.toNat) (s.slot b.toNat) ∧
        frToWord (s.frAt a.toNat - s.frAt b.toNat) = subWord Config.r (s.slot a.toNat) (s.slot b.toNat) ∧
        s.Writes (exec (.frAdd d a b) s) d [addWord Config.r (s.slot a.toNat) (s.slot b.toNat)] ∧
        s.Writes (exec (.frSub d a b) s) d [subWord Config.r (s.slot a.toNat) (s.slot b.toNat)])) ∧
    (¬ s.canonFq a.toNat → s.Fails (exec (.fqNeg d a) s) .noncanonical) ∧
    (¬ s.canonFr a.toNat → s.Fails (exec (.frNeg d a) s) .noncanonical) ∧
    ((¬ s.canonFq a.toNat ∨ ¬ s.canonFq b.toNat) →
      s.Fails (exec (.fqAdd d a b) s) .noncanonical ∧ s.Fails (exec (.fqSub d a b) s) .noncanonical) ∧
    ((¬ s.canonFr a.toNat ∨ ¬ s.canonFr b.toNat) →
      s.Fails (exec (.frAdd d a b) s) .noncanonical ∧ s.Fails (exec (.frSub d a b) s) .noncanonical)

/-- MUL and SQR of Fq and Fr: on canonical slot words the Montgomery product, which is the product of the field values; on any other
words NONCANONICAL (41_field_fq_fr.md R140, R142, R148, R149, R161, R162). -/
def Obligations.FieldMulSqrAreMontgomeryProducts : Prop :=
  ∀ (s : State) (d a b : SlotNo),
    (encode (.fqMul d a b) = encodeWord 0x13 d a b 0 ∧ encode (.fqSqr d a) = encodeWord 0x14 d a 0 0 ∧
      encode (.frMul d a b) = encodeWord 0x23 d a b 0 ∧ encode (.frSqr d a) = encodeWord 0x24 d a 0 0) ∧
    (s.canonFq a.toNat →
      (∃ w, w = fqToWord (s.fqAt a.toNat * s.fqAt a.toNat) ∧
        MontProduct Config.q (2 ^ 384) (s.slot a.toNat) (s.slot a.toNat) w ∧ s.Writes (exec (.fqSqr d a) s) d [w]) ∧
      (s.canonFq b.toNat →
        ∃ w, w = fqToWord (s.fqAt a.toNat * s.fqAt b.toNat) ∧
          MontProduct Config.q (2 ^ 384) (s.slot a.toNat) (s.slot b.toNat) w ∧ s.Writes (exec (.fqMul d a b) s) d [w])) ∧
    (s.canonFr a.toNat →
      (∃ w, w = frToWord (s.frAt a.toNat * s.frAt a.toNat) ∧
        MontProduct Config.r (2 ^ 256) (s.slot a.toNat) (s.slot a.toNat) w ∧ s.Writes (exec (.frSqr d a) s) d [w]) ∧
      (s.canonFr b.toNat →
        ∃ w, w = frToWord (s.frAt a.toNat * s.frAt b.toNat) ∧
          MontProduct Config.r (2 ^ 256) (s.slot a.toNat) (s.slot b.toNat) w ∧ s.Writes (exec (.frMul d a b) s) d [w])) ∧
    (¬ s.canonFq a.toNat → s.Fails (exec (.fqSqr d a) s) .noncanonical) ∧
    (¬ s.canonFr a.toNat → s.Fails (exec (.frSqr d a) s) .noncanonical) ∧
    ((¬ s.canonFq a.toNat ∨ ¬ s.canonFq b.toNat) → s.Fails (exec (.fqMul d a b) s) .noncanonical) ∧
    ((¬ s.canonFr a.toNat ∨ ¬ s.canonFr b.toNat) → s.Fails (exec (.frMul d a b) s) .noncanonical)

/-- FQ.EXP and FR.EXP write the exact power of the base by the exponent of IMM limbs, 1 for the exponent 0 and for 0^0; the exponent
is not reduced and never faults; a base that is not canonical raises NONCANONICAL, an exponent past slot 255 SLOT_RANGE
(41_field_fq_fr.md R150, R163; 10_state.md R29; 30_encoding.md R97). -/
def Obligations.FieldExpIsTheExactPower : Prop :=
  ∀ (s : State) (d a b : SlotNo) (imm : Imm),
    (encode (.fqExp d a b imm) = encodeWord 0x15 d a b imm ∧ encode (.frExp d a b imm) = encodeWord 0x25 d a b imm) ∧
    ((imm = 0 ∨ b.toNat + (imm.toNat + 5) / 6 ≤ 256) →
      (s.canonFq a.toNat →
        s.Writes (exec (.fqExp d a b imm) s) d
          [BitVec.ofNat 384 ((s.fqAt a.toNat).val ^ s.exponent b.toNat imm.toNat * 2 ^ 384 % Config.q)]) ∧
      (s.canonFr a.toNat →
        s.Writes (exec (.frExp d a b imm) s) d
          [BitVec.ofNat 384 ((s.frAt a.toNat).val ^ s.exponent b.toNat imm.toNat * 2 ^ 256 % Config.r)]) ∧
      (¬ s.canonFq a.toNat → s.Fails (exec (.fqExp d a b imm) s) .noncanonical) ∧
      (¬ s.canonFr a.toNat → s.Fails (exec (.frExp d a b imm) s) .noncanonical)) ∧
    (imm ≠ 0 → 256 < b.toNat + (imm.toNat + 5) / 6 →
      s.Fails (exec (.fqExp d a b imm) s) .slotRange ∧ s.Fails (exec (.frExp d a b imm) s) .slotRange)

/-- FQ.INV and FR.INV of a non-zero value write its power q - 2, or r - 2; of 0 they raise DIVISION_BY_ZERO, of a word that is not
canonical NONCANONICAL (41_field_fq_fr.md R151, R164). -/
def Obligations.FieldInverseIsTheFermatPower : Prop :=
  ∀ (s : State) (d a : SlotNo),
    (encode (.fqInv d a) = encodeWord 0x16 d a 0 0 ∧ encode (.frInv d a) = encodeWord 0x26 d a 0 0) ∧
    (s.canonFq a.toNat → s.slot a.toNat ≠ 0 →
      s.Writes (exec (.fqInv d a) s) d [BitVec.ofNat 384 ((s.fqAt a.toNat).val ^ (Config.q - 2) * 2 ^ 384 % Config.q)]) ∧
    (s.canonFr a.toNat → s.slot a.toNat ≠ 0 →
      s.Writes (exec (.frInv d a) s) d [BitVec.ofNat 384 ((s.frAt a.toNat).val ^ (Config.r - 2) * 2 ^ 256 % Config.r)]) ∧
    (s.slot a.toNat = 0 → s.Fails (exec (.fqInv d a) s) .divisionByZero ∧ s.Fails (exec (.frInv d a) s) .divisionByZero) ∧
    (¬ s.canonFq a.toNat → s.Fails (exec (.fqInv d a) s) .noncanonical) ∧
    (¬ s.canonFr a.toNat → s.Fails (exec (.frInv d a) s) .noncanonical)

/-- FROMINT writes n·R mod m for an integer n below the modulus and raises OUT_OF_BOUNDS for every other; TOINT writes the value of a
canonical slot and raises NONCANONICAL for any other; TOINT of FROMINT of n is n. At slot level these are the Montgomery products by
the ROM's R^2 mod m and by 1 (41_field_fq_fr.md R142, R152, R153, R165, R166). -/
def Obligations.IntegerConversions : Prop :=
  ∀ (s : State) (d a : SlotNo),
    (encode (.fqFromint d a) = encodeWord 0x17 d a 0 0 ∧ encode (.fqToint d a) = encodeWord 0x18 d a 0 0 ∧
      encode (.frFromint d a) = encodeWord 0x27 d a 0 0 ∧ encode (.frToint d a) = encodeWord 0x28 d a 0 0) ∧
    (¬ s.canonFq a.toNat → s.Fails (exec (.fqToint d a) s) .noncanonical) ∧
    (¬ s.canonFr a.toNat → s.Fails (exec (.frToint d a) s) .noncanonical) ∧
    (s.canonFq a.toNat →
      MontProduct Config.q (2 ^ 384) (s.slot a.toNat) montSquareQ (BitVec.ofNat 384 ((s.slot a.toNat).toNat * 2 ^ 384 % Config.q)) ∧
      MontProduct Config.q (2 ^ 384) (s.slot a.toNat) 1 (BitVec.ofNat 384 (s.fqAt a.toNat).val)) ∧
    (s.canonFr a.toNat →
      MontProduct Config.r (2 ^ 256) (s.slot a.toNat) montSquareR (BitVec.ofNat 384 ((s.slot a.toNat).toNat * 2 ^ 256 % Config.r)) ∧
      MontProduct Config.r (2 ^ 256) (s.slot a.toNat) 1 (BitVec.ofNat 384 (s.frAt a.toNat).val)) ∧
    ((s.slot a.toNat).toNat < Config.q →
      s.Writes (exec (.fqFromint d a) s) d [BitVec.ofNat 384 ((s.slot a.toNat).toNat * 2 ^ 384 % Config.q)]) ∧
    (Config.q ≤ (s.slot a.toNat).toNat → s.Fails (exec (.fqFromint d a) s) .outOfBounds) ∧
    (s.canonFq a.toNat → s.Writes (exec (.fqToint d a) s) d [BitVec.ofNat 384 (s.fqAt a.toNat).val]) ∧
    ((s.slot a.toNat).toNat < Config.r →
      s.Writes (exec (.frFromint d a) s) d [BitVec.ofNat 384 ((s.slot a.toNat).toNat * 2 ^ 256 % Config.r)]) ∧
    (Config.r ≤ (s.slot a.toNat).toNat → s.Fails (exec (.frFromint d a) s) .outOfBounds) ∧
    (s.canonFr a.toNat → s.Writes (exec (.frToint d a) s) d [BitVec.ofNat 384 (s.frAt a.toNat).val]) ∧
    (∀ (t t' : State) (e : SlotNo), (s.slot a.toNat).toNat < Config.q → exec (.fqFromint d a) s = .next t →
      exec (.fqToint e d) t = .next t' → t'.slot e.toNat = s.slot a.toNat) ∧
    (∀ (t t' : State) (e : SlotNo), (s.slot a.toNat).toNat < Config.r → exec (.frFromint d a) s = .next t →
      exec (.frToint e d) t = .next t' → t'.slot e.toNat = s.slot a.toNat)

/-- The field equality commands set EQ exactly when the canonical slot words are equal, which is when the values are; with an operand
out of range or not canonical they raise that error and leave EQ (41_field_fq_fr.md R154, R167; 42_tower.md R199, R209, R219;
10_state.md R39). -/
def Obligations.FieldEqualityIsSlotEquality : Prop :=
  ∀ (s : State) (a b : SlotNo),
    (encode (.fqEq a b) = encodeWord 0x19 0 a b 0 ∧ encode (.frEq a b) = encodeWord 0x29 0 a b 0 ∧
      encode (.fq2Eq a b) = encodeWord 0x39 0 a b 0 ∧ encode (.fq6Eq a b) = encodeWord 0x49 0 a b 0 ∧
      encode (.fq12Eq a b) = encodeWord 0x59 0 a b 0) ∧
    (s.canonFq a.toNat → s.canonFq b.toNat →
      (s.slot a.toNat = s.slot b.toNat ↔ s.fqAt a.toNat = s.fqAt b.toNat) ∧
      s.SetsEq (exec (.fqEq a b) s) (s.slot a.toNat == s.slot b.toNat)) ∧
    (s.canonFr a.toNat → s.canonFr b.toNat →
      (s.slot a.toNat = s.slot b.toNat ↔ s.frAt a.toNat = s.frAt b.toNat) ∧
      s.SetsEq (exec (.frEq a b) s) (s.slot a.toNat == s.slot b.toNat)) ∧
    ((¬ s.canonFq a.toNat ∨ ¬ s.canonFq b.toNat) → s.Fails (exec (.fqEq a b) s) .noncanonical) ∧
    ((¬ s.canonFr a.toNat ∨ ¬ s.canonFr b.toNat) → s.Fails (exec (.frEq a b) s) .noncanonical) ∧
    (s.Ready (.fq2Eq a b) → s.SetsEq (exec (.fq2Eq a b) s)
      ((List.range 2).all fun k => s.slot (a.toNat + k) == s.slot (b.toNat + k))) ∧
    (s.Ready (.fq6Eq a b) → s.SetsEq (exec (.fq6Eq a b) s)
      ((List.range 6).all fun k => s.slot (a.toNat + k) == s.slot (b.toNat + k))) ∧
    (s.Ready (.fq12Eq a b) → s.SetsEq (exec (.fq12Eq a b) s)
      ((List.range 12).all fun k => s.slot (a.toNat + k) == s.slot (b.toNat + k))) ∧
    ∀ c, (s.operandError (.fq2Eq a b) = some c → s.Fails (exec (.fq2Eq a b) s) c) ∧
      (s.operandError (.fq6Eq a b) = some c → s.Fails (exec (.fq6Eq a b) s) c) ∧
      (s.operandError (.fq12Eq a b) = some c → s.Fails (exec (.fq12Eq a b) s) c)

/-- FQ.RAND and FR.RAND take the first draw that is neither 0 nor out of range, store it as a field value, and pop exactly the words
of that draw and of the rejected ones before it. When every whole draw is rejected they raise ENTROPY_EXHAUSTED: the words of those
draws are popped, an incomplete group is not, and nothing else is written (41_field_fq_fr.md R155, R168). -/
def Obligations.RandStoresTheFirstAcceptedDraw : Prop :=
  ∀ (s : State) (d : SlotNo),
    (encode (.fqRand d) = encodeWord 0x1A d 0 0 0 ∧ encode (.frRand d) = encodeWord 0x2A d 0 0 0) ∧
    (∀ k, 6 * (k + 1) ≤ s.entropy.length → fqDraw s.entropy k ≠ 0 → fqDraw s.entropy k < Config.q →
      (∀ j < k, fqDraw s.entropy j = 0 ∨ Config.q ≤ fqDraw s.entropy j) →
      ∃ t, exec (.fqRand d) s = .next t ∧ s.Completed t ∧ t.eq = s.eq ∧ t.entropy = s.entropy.drop (6 * (k + 1)) ∧
        s.SlotsFrom t d [BitVec.ofNat 384 (fqDraw s.entropy k * 2 ^ 384 % Config.q)]) ∧
    (∀ k, 4 * (k + 1) ≤ s.entropy.length → frDraw s.entropy k ≠ 0 → frDraw s.entropy k < Config.r →
      (∀ j < k, frDraw s.entropy j = 0 ∨ Config.r ≤ frDraw s.entropy j) →
      ∃ t, exec (.frRand d) s = .next t ∧ s.Completed t ∧ t.eq = s.eq ∧ t.entropy = s.entropy.drop (4 * (k + 1)) ∧
        s.SlotsFrom t d [BitVec.ofNat 384 (frDraw s.entropy k * 2 ^ 256 % Config.r)]) ∧
    ((∀ k < s.entropy.length / 6, fqDraw s.entropy k = 0 ∨ Config.q ≤ fqDraw s.entropy k) →
      ∃ t, exec (.fqRand d) s = .next t ∧ s.Failed .entropyExhausted t ∧
        t.entropy = s.entropy.drop (6 * (s.entropy.length / 6))) ∧
    ((∀ k < s.entropy.length / 4, frDraw s.entropy k = 0 ∨ Config.r ≤ frDraw s.entropy k) →
      ∃ t, exec (.frRand d) s = .next t ∧ s.Failed .entropyExhausted t ∧
        t.entropy = s.entropy.drop (4 * (s.entropy.length / 4)))

/-! ### The tower -/

/-- ADD, SUB and NEG of Fq2, Fq6 and Fq12 work slot by slot, and the two CONJ negate the upper half (42_tower.md R180, R190 to R192,
R196, R200 to R202, R210 to R212, R216). -/
def Obligations.TowerLinearCommandsWorkSlotBySlot : Prop :=
  ∀ (s : State) (d a b : SlotNo),
    let add := fun n => (List.range n).map fun k => addWord Config.q (s.slot (a.toNat + k)) (s.slot (b.toNat + k))
    let sub := fun n => (List.range n).map fun k => subWord Config.q (s.slot (a.toNat + k)) (s.slot (b.toNat + k))
    let neg := fun n => (List.range n).map fun k => negWord Config.q (s.slot (a.toNat + k))
    let conj := fun n => (List.range n).map fun k =>
      if k < n / 2 then s.slot (a.toNat + k) else negWord Config.q (s.slot (a.toNat + k))
    (s.Ready (.fq2Add d a b) → s.Writes (exec (.fq2Add d a b) s) d (add 2)) ∧
    (s.Ready (.fq6Add d a b) → s.Writes (exec (.fq6Add d a b) s) d (add 6)) ∧
    (s.Ready (.fq12Add d a b) → s.Writes (exec (.fq12Add d a b) s) d (add 12)) ∧
    (s.Ready (.fq2Sub d a b) → s.Writes (exec (.fq2Sub d a b) s) d (sub 2)) ∧
    (s.Ready (.fq6Sub d a b) → s.Writes (exec (.fq6Sub d a b) s) d (sub 6)) ∧
    (s.Ready (.fq12Sub d a b) → s.Writes (exec (.fq12Sub d a b) s) d (sub 12)) ∧
    (s.Ready (.fq2Neg d a) → s.Writes (exec (.fq2Neg d a) s) d (neg 2)) ∧
    (s.Ready (.fq6Neg d a) → s.Writes (exec (.fq6Neg d a) s) d (neg 6)) ∧
    (s.Ready (.fq12Neg d a) → s.Writes (exec (.fq12Neg d a) s) d (neg 12)) ∧
    (s.Ready (.fq2Conj d a) → s.Writes (exec (.fq2Conj d a) s) d (conj 2)) ∧
    (s.Ready (.fq12Conj d a) → s.Writes (exec (.fq12Conj d a) s) d (conj 12))

/-- FQ2.MUL and FQ2.SQR are the product reduced by i^2 = -1, FQ2.MULXI the product by 1 + i; FQ6.MUL and FQ6.SQR are the Karatsuba
formula of 42_tower.md R180, FQ6.SPMUL01 the product by (b0, b1, 0), FQ6.MULNR the product by y (R193, R194, R197, R203, R204, R206,
R207). -/
def Obligations.Fq2AndFq6Products : Prop :=
  ∀ (s : State) (d a b : SlotNo),
    let x := s.fq2At a.toNat
    let y := s.fq2At b.toNat
    let u := s.fq6At a.toNat
    let v := s.fq6At b.toNat
    (s.Ready (.fq2Mul d a b) → s.Writes (exec (.fq2Mul d a b) s) d
      (fq2Words ⟨x.c0 * y.c0 - x.c1 * y.c1, x.c0 * y.c1 + x.c1 * y.c0⟩)) ∧
    (s.Ready (.fq2Sqr d a) → s.Writes (exec (.fq2Sqr d a) s) d
      (fq2Words ⟨(x.c0 + x.c1) * (x.c0 - x.c1), twice (x.c0 * x.c1)⟩)) ∧
    (s.Ready (.fq2Mulxi d a) → s.Writes (exec (.fq2Mulxi d a) s) d (fq2Words (x.mul ⟨1, 1⟩))) ∧
    (s.Ready (.fq6Mul d a b) → s.Writes (exec (.fq6Mul d a b) s) d (fq6Words (fq6Karatsuba u v))) ∧
    (s.Ready (.fq6Sqr d a) → s.Writes (exec (.fq6Sqr d a) s) d (fq6Words (fq6Karatsuba u u))) ∧
    (s.Ready (.fq6Spmul01 d a b) → s.Writes (exec (.fq6Spmul01 d a b) s) d
      (fq6Words (fq6Karatsuba u ⟨y, s.fq2At (b.toNat + 2), Fq2.zero⟩))) ∧
    (s.Ready (.fq6Mulnr d a) → s.Writes (exec (.fq6Mulnr d a) s) d
      (fq6Words (fq6Karatsuba u ⟨Fq2.zero, Fq2.one, Fq2.zero⟩)))

/-- FQ12.MUL, FQ12.SQR and FQ12.SPMUL014: each coefficient of w^k of the result is that of the product of polynomials in w reduced by
w^6 = xi, where SPMUL014 has the coefficients l0 at 1, l1 at w^2 and l4 at w^3 (00_scope.md R13; 42_tower.md R213, R214, R217). -/
def Obligations.Fq12ProductsReduceByWToTheSixth : Prop :=
  ∀ (s : State) (d a b : SlotNo),
    let x := s.fq12At a.toNat
    let y := s.fq12At b.toNat
    let l : Fq12 := ⟨⟨s.fq2At b.toNat, s.fq2At (b.toNat + 2), Fq2.zero⟩, ⟨Fq2.zero, s.fq2At (b.toNat + 4), Fq2.zero⟩⟩
    (s.Ready (.fq12Mul d a b) →
      ∃ z, s.Writes (exec (.fq12Mul d a b) s) d (fq12Words z) ∧ ∀ k < 6, z.wCoeff k = wProduct x y k) ∧
    (s.Ready (.fq12Sqr d a) →
      ∃ z, s.Writes (exec (.fq12Sqr d a) s) d (fq12Words z) ∧ ∀ k < 6, z.wCoeff k = wProduct x x k) ∧
    (s.Ready (.fq12Spmul014 d a b) →
      ∃ z, s.Writes (exec (.fq12Spmul014 d a b) s) d (fq12Words z) ∧ ∀ k < 6, z.wCoeff k = wProduct x l k)

/-- The tower inversions of non-zero values: FQ2.INV writes (a0·t, -a1·t) with t the power q - 2 of the norm a0^2 + a1^2; FQ6.INV and
FQ12.INV write the inverse formulas of 42_tower.md R183 and R215, of which z·z^-1 is the norm of z times the norm's inverse, in the
field below (R195, R205, R215). -/
def Obligations.TowerInversions : Prop :=
  (∀ (s : State) (d a : SlotNo),
    let x := s.fq2At a.toNat
    let t := fqInverse (x.c0 * x.c0 + x.c1 * x.c1)
    (s.Ready (.fq2Inv d a) → x ≠ Fq2.zero → s.Writes (exec (.fq2Inv d a) s) d (fq2Words ⟨x.c0 * t, -(x.c1 * t)⟩)) ∧
    (s.Ready (.fq6Inv d a) → s.fq6At a.toNat ≠ Fq6.zero →
      s.Writes (exec (.fq6Inv d a) s) d (fq6Words (s.fq6At a.toNat).inverse)) ∧
    (s.Ready (.fq12Inv d a) → s.fq12At a.toNat ≠ Fq12.zero →
      s.Writes (exec (.fq12Inv d a) s) d (fq12Words (s.fq12At a.toNat).inverse))) ∧
  (∀ z : Fq2, z.mul z.inverse = ⟨(z.c0 * z.c0 + z.c1 * z.c1) * fqInverse (z.c0 * z.c0 + z.c1 * z.c1), 0⟩) ∧
  (∀ z : Fq6, ∃ n : Fq2, n = (z.c0.mul ((z.c0.mul z.c0).sub (z.c1.mul z.c2).mulXi)).add
      ((z.c2.mul ((z.c2.mul z.c2).mulXi.sub (z.c0.mul z.c1))).add (z.c1.mul ((z.c1.mul z.c1).sub (z.c0.mul z.c2)))).mulXi ∧
    z.mul z.inverse = ⟨n.mul n.inverse, Fq2.zero, Fq2.zero⟩) ∧
  ∀ z : Fq12, ∃ n : Fq6, n = (z.c0.mul z.c0).sub (z.c1.mul z.c1).mulNr ∧ z.mul z.inverse = ⟨n.mul n.inverse, Fq6.zero⟩

/-- FQ12.EXP writes x^e for the exponent of IMM limbs, where x^0 = 1 and x^(e+1) = x^e · x (42_tower.md R220). -/
def Obligations.Fq12ExpIsTheRepeatedProduct : Prop :=
  (∀ (s : State) (d a b : SlotNo) (imm : Imm), s.Ready (.fq12Exp d a b imm) →
    s.Writes (exec (.fq12Exp d a b imm) s) d (fq12Words ((s.fq12At a.toNat).exp (s.exponent b.toNat imm.toNat)))) ∧
  ∀ x : Fq12, x.exp 0 = Fq12.one ∧ ∀ e, x.exp (e + 1) = (x.exp e).mul x

/-- FQ2.FROB, FQ6.FROB and FQ12.FROB write the Frobenius maps of 42_tower.md R182; the power counts modulo 2, 6 and 12, 0 is the
identity map, an odd power of Fq2 and power 6 of Fq12 are the conjugations, and powers add up (R198, R208, R216, R218). -/
def Obligations.FrobeniusCommands : Prop :=
  (∀ (s : State) (d a : SlotNo) (imm : Imm),
    (s.Ready (.fq2Frob d a imm) → s.Writes (exec (.fq2Frob d a imm) s) d (fq2Words ((s.fq2At a.toNat).frob imm.toNat))) ∧
    (s.Ready (.fq6Frob d a imm) → s.Writes (exec (.fq6Frob d a imm) s) d (fq6Words ((s.fq6At a.toNat).frob imm.toNat))) ∧
    (s.Ready (.fq12Frob d a imm) → s.Writes (exec (.fq12Frob d a imm) s) d (fq12Words ((s.fq12At a.toNat).frob imm.toNat)))) ∧
  (∀ (x : Fq2) (k : Nat), x.frob (2 * k) = x ∧ x.frob (2 * k + 1) = x.conj) ∧
  (∀ (x : Fq6) (j k : Nat), x.frob (6 * k) = x ∧ (x.frob j).frob k = x.frob (j + k)) ∧
  ∀ (x : Fq12) (j k : Nat), x.frob (12 * k) = x ∧ x.frob 6 = x.conj ∧ (x.frob j).frob k = x.frob (j + k)

/-- The Frobenius maps of Fq6 and Fq12 respect products, as a^(q^k) does (42_tower.md R181, R182). -/
def Obligations.FrobeniusRespectsProducts : Prop :=
  (∀ (x y : Fq6) (k : Nat), (x.mul y).frob k = (x.frob k).mul (y.frob k)) ∧
  ∀ (x y : Fq12) (k : Nat), (x.mul y).frob k = (x.frob k).mul (y.frob k)

/-! ### G1 and G2 -/

/-- The G1 commands on readable operands: ADD, DBL, NEG and ENDO write the point function of 43_groups.md R240 and R241, SMUL the
double-and-add of any 384-bit scalar, SMULGLV MultiMul over P and Endo(P) for a scalar below r, TOAFF a copy for Z = 1 and the affine
point for any other Z but 0, FROMAFF (x, y, 1) and IDENT (1, 1, 0) (R250 to R255, R257 to R259). -/
def Obligations.G1CommandsWriteTheirPoint : Prop :=
  ∀ (s : State) (d a b : SlotNo),
    let P := s.g1At a.toNat
    let Q := s.g1At b.toNat
    let k := (s.slot b.toNat).toNat
    (s.Ready (.g1Add d a b) → s.Writes (exec (.g1Add d a b) s) d (g1Words (g1Add P Q))) ∧
    (s.Ready (.g1Dbl d a) → s.Writes (exec (.g1Dbl d a) s) d (g1Words (g1Dbl P))) ∧
    (s.Ready (.g1Neg d a) → s.Writes (exec (.g1Neg d a) s) d
      [s.slot a.toNat, negWord Config.q (s.slot (a.toNat + 1)), s.slot (a.toNat + 2)]) ∧
    (s.Ready (.g1Smul d a b) → s.Writes (exec (.g1Smul d a b) s) d (g1Words (g1SMul P k))) ∧
    (s.Ready (.g1Smulglv d a b) → k < Config.r → ∃ c0 c1, decompose1 k = [c0, c1] ∧
      s.Writes (exec (.g1Smulglv d a b) s) d (g1Words (g1MultiMul [(P, c0), (endo P, c1)]))) ∧
    (s.Ready (.g1Toaff d a) → P.z = 1 → s.Writes (exec (.g1Toaff d a) s) d
      [s.slot a.toNat, s.slot (a.toNat + 1), s.slot (a.toNat + 2)]) ∧
    (s.Ready (.g1Toaff d a) → P.z ≠ 1 → P.z ≠ 0 → s.Writes (exec (.g1Toaff d a) s) d
      (g1Words ⟨P.x * (fqInverse P.z * fqInverse P.z), P.y * (fqInverse P.z * fqInverse P.z * fqInverse P.z), 1⟩)) ∧
    (s.Ready (.g1Endo d a) → s.Writes (exec (.g1Endo d a) s) d (g1Words ⟨beta * P.x, P.y, P.z⟩)) ∧
    (s.Ready (.g1Fromaff d a) → s.Writes (exec (.g1Fromaff d a) s) d
      [s.slot a.toNat, s.slot (a.toNat + 1), fqToWord 1]) ∧
    (s.Ready (.g1Ident d) → s.Writes (exec (.g1Ident d) s) d [fqToWord 1, fqToWord 1, 0])

/-- The G2 commands on readable operands, as for G1, each point written with T = Z·Z (43_groups.md R260 to R265, R267 to R269;
10_state.md R26). -/
def Obligations.G2CommandsWriteTheirPoint : Prop :=
  ∀ (s : State) (d a b : SlotNo),
    let P := s.g2At a.toNat
    let Q := s.g2At b.toNat
    let k := (s.slot b.toNat).toNat
    let zi := P.z.inverse
    (s.Ready (.g2Add d a b) → s.Writes (exec (.g2Add d a b) s) d (g2Words (g2Add P Q))) ∧
    (s.Ready (.g2Dbl d a) → s.Writes (exec (.g2Dbl d a) s) d (g2Words (g2Dbl P))) ∧
    (s.Ready (.g2Neg d a) → s.Writes (exec (.g2Neg d a) s) d ((List.range 8).map fun k =>
      if k = 2 ∨ k = 3 then negWord Config.q (s.slot (a.toNat + k)) else s.slot (a.toNat + k))) ∧
    (s.Ready (.g2Smul d a b) → s.Writes (exec (.g2Smul d a b) s) d (g2Words (g2SMul P k))) ∧
    (s.Ready (.g2Smulgls d a b) → k < Config.r → ∃ c0 c1 c2 c3, decompose2 k = [c0, c1, c2, c3] ∧
      s.Writes (exec (.g2Smulgls d a b) s) d
        (g2Words (g2MultiMul [(P, c0), (psi P, c1), (psi (psi P), c2), (psi (psi (psi P)), c3)]))) ∧
    (s.Ready (.g2Toaff d a) → P.z = Fq2.one → s.Writes (exec (.g2Toaff d a) s) d
      ((List.range 8).map fun k => s.slot (a.toNat + k))) ∧
    (s.Ready (.g2Toaff d a) → P.z ≠ Fq2.one → P.z ≠ Fq2.zero → s.Writes (exec (.g2Toaff d a) s) d
      (fq2Words (P.x.mul (zi.mul zi)) ++ fq2Words (P.y.mul ((zi.mul zi).mul zi)) ++ fq2Words ⟨1, 0⟩ ++ fq2Words ⟨1, 0⟩)) ∧
    (s.Ready (.g2Psi d a) → s.Writes (exec (.g2Psi d a) s) d
      (g2Words ⟨P.x.conj.mul psiCx, P.y.conj.mul psiCy, P.z.conj⟩)) ∧
    (s.Ready (.g2Fromaff d a) → s.Writes (exec (.g2Fromaff d a) s) d
      (((List.range 4).map fun k => s.slot (a.toNat + k)) ++ fq2Words ⟨1, 0⟩ ++ fq2Words ⟨1, 0⟩)) ∧
    (s.Ready (.g2Ident d) → s.Writes (exec (.g2Ident d) s) d
      (fq2Words ⟨1, 0⟩ ++ fq2Words ⟨1, 0⟩ ++ fq2Words ⟨0, 0⟩ ++ fq2Words ⟨0, 0⟩))

/-- G1.EQ and G2.EQ on readable operands: with an identity operand, equal exactly when both are identities; otherwise by
cross-multiplication. Two representations (X, Y, Z) and (k^2·X, k^3·Y, k·Z) of one point are equal (43_groups.md R240, R256, R266). -/
def Obligations.PointEqualityIsCrossMultiplication : Prop :=
  (∀ (s : State) (a b : SlotNo),
    let P := s.g1At a.toNat
    let Q := s.g1At b.toNat
    s.Ready (.g1Eq a b) →
      ((P.z = 0 ∨ Q.z = 0) → s.SetsEq (exec (.g1Eq a b) s) (decide (P.z = 0 ∧ Q.z = 0))) ∧
      (P.z ≠ 0 → Q.z ≠ 0 → s.SetsEq (exec (.g1Eq a b) s)
        (decide (P.x * (Q.z * Q.z) = Q.x * (P.z * P.z) ∧ P.y * (Q.z * Q.z * Q.z) = Q.y * (P.z * P.z * P.z))))) ∧
  (∀ (s : State) (a b : SlotNo),
    let P := s.g2At a.toNat
    let Q := s.g2At b.toNat
    s.Ready (.g2Eq a b) →
      ((P.z = Fq2.zero ∨ Q.z = Fq2.zero) → s.SetsEq (exec (.g2Eq a b) s) (decide (P.z = Fq2.zero ∧ Q.z = Fq2.zero))) ∧
      (P.z ≠ Fq2.zero → Q.z ≠ Fq2.zero → s.SetsEq (exec (.g2Eq a b) s)
        (decide (P.x.mul (Q.z.mul Q.z) = Q.x.mul (P.z.mul P.z) ∧
          P.y.mul ((Q.z.mul Q.z).mul Q.z) = Q.y.mul ((P.z.mul P.z).mul P.z))))) ∧
  (∀ (P : G1) (k : Fq), P.z ≠ 0 → k * P.z ≠ 0 → g1PEq P ⟨k * k * P.x, k * k * k * P.y, k * P.z⟩ = true) ∧
  ∀ (P : G2) (k : Fq2), P.z ≠ Fq2.zero → k.mul P.z ≠ Fq2.zero →
    g2PEq P ⟨(k.mul k).mul P.x, ((k.mul k).mul k).mul P.y, k.mul P.z⟩ = true

/-- A G1 command whose readable operands are on E1 writes a point on E1: ADD, DBL, NEG, ENDO, SMUL, SMULGLV, FROMAFF, IDENT and the two
G1 constants of LDC. The equation is that of the raw coordinates, so no field inversion enters (00_scope.md R12;
43_groups.md R240 to R244). -/
def Obligations.G1CommandsKeepTheCurve : Prop :=
  ∀ (s : State) (d a b : SlotNo),
    let ends := fun o : Outcome => ∃ t, o = .next t ∧ s.Completed t ∧ g1OnCurve (t.g1At d.toNat)
    (s.Ready (.g1Ident d) → ends (exec (.g1Ident d) s) ∧ ends (exec (.ldc d 3) s) ∧ ends (exec (.ldc d 5) s)) ∧
    (s.Ready (.g1Fromaff d a) → g1OnCurve ⟨s.fqAt a.toNat, s.fqAt (a.toNat + 1), 1⟩ → ends (exec (.g1Fromaff d a) s)) ∧
    (g1OnCurve (s.g1At a.toNat) →
      (s.Ready (.g1Dbl d a) → ends (exec (.g1Dbl d a) s) ∧ ends (exec (.g1Neg d a) s) ∧ ends (exec (.g1Endo d a) s)) ∧
      (s.Ready (.g1Smul d a b) → ends (exec (.g1Smul d a b) s) ∧
        ((s.slot b.toNat).toNat < Config.r → ends (exec (.g1Smulglv d a b) s))) ∧
      (s.Ready (.g1Add d a b) → g1OnCurve (s.g1At b.toNat) → ends (exec (.g1Add d a b) s)))

/-- The same for G2 and E2, with PSI in the place of ENDO and SMULGLS in the place of SMULGLV; every written point meets T = Z·Z
(00_scope.md R12; 10_state.md R26; 43_groups.md R240 to R244). -/
def Obligations.G2CommandsKeepTheCurve : Prop :=
  ∀ (s : State) (d a b : SlotNo),
    let ends := fun o : Outcome => ∃ t, o = .next t ∧ s.Completed t ∧ g2OnCurve (t.g2At d.toNat) ∧
      t.fq2At (d.toNat + 6) = (t.fq2At (d.toNat + 4)).mul (t.fq2At (d.toNat + 4))
    (s.Ready (.g2Ident d) → ends (exec (.g2Ident d) s) ∧ ends (exec (.ldc d 4) s) ∧ ends (exec (.ldc d 6) s)) ∧
    (s.Ready (.g2Fromaff d a) → g2OnCurve ⟨s.fq2At a.toNat, s.fq2At (a.toNat + 2), Fq2.one⟩ → ends (exec (.g2Fromaff d a) s)) ∧
    (g2OnCurve (s.g2At a.toNat) →
      (s.Ready (.g2Dbl d a) → ends (exec (.g2Dbl d a) s) ∧ ends (exec (.g2Neg d a) s) ∧ ends (exec (.g2Psi d a) s)) ∧
      (s.Ready (.g2Smul d a b) → ends (exec (.g2Smul d a b) s) ∧
        ((s.slot b.toNat).toNat < Config.r → ends (exec (.g2Smulgls d a b) s))) ∧
      (s.Ready (.g2Add d a b) → g2OnCurve (s.g2At b.toNat) → ends (exec (.g2Add d a b) s)))

/-- Laws of the point functions: an identity operand of Add gives the other operand unchanged; Add of two representations of one
non-identity point is Dbl of the first; Add of P and -P is (rr^2, -rr^3, 0) for rr = -4YZ^3 not 0 and Dbl(P) for rr = 0; Add of
representations of P and of -P is an identity, said where Z has an inverse, which in a field is every Z but 0; Dbl fixes (1, 1, 0) and
keeps Z = 0; Endo three times is the identity map (43_groups.md R242, R243, R250, R251, R257, R260, R261). -/
def Obligations.PointFunctionLaws : Prop :=
  (∀ P Q : G1,
    let rr := -twice (twice (P.y * (P.z * P.z * P.z)))
    (P.z = 0 → g1Add P Q = Q) ∧ (P.z ≠ 0 → Q.z = 0 → g1Add P Q = P) ∧
    (P.z ≠ 0 → g1Add P P = g1Dbl P) ∧ (P.z ≠ 0 → g1PEq P Q = true → g1Add P Q = g1Dbl P) ∧
    (P.z ≠ 0 → rr ≠ 0 → g1Add P (g1Neg P) = ⟨rr * rr, -(rr * rr * rr), 0⟩) ∧
    (P.z ≠ 0 → rr = 0 → g1Add P (g1Neg P) = g1Dbl P) ∧
    (∀ v w : Fq, v * P.z = 1 → w * Q.z = 1 → g1PEq (g1Neg P) Q = true → (g1Add P Q).z = 0) ∧
    (P.z = 0 → (g1Dbl P).z = 0) ∧ endo (endo (endo P)) = P) ∧
  (∀ P Q : G2,
    let rr := (((P.y.mul ((P.z.mul P.z).mul P.z)).scale 4).neg)
    (P.z = Fq2.zero → g2Add P Q = Q) ∧ (P.z ≠ Fq2.zero → Q.z = Fq2.zero → g2Add P Q = P) ∧
    (P.z ≠ Fq2.zero → g2Add P P = g2Dbl P) ∧ (P.z ≠ Fq2.zero → g2PEq P Q = true → g2Add P Q = g2Dbl P) ∧
    (P.z ≠ Fq2.zero → rr ≠ Fq2.zero → g2Add P (g2Neg P) = ⟨rr.mul rr, ((rr.mul rr).mul rr).neg, Fq2.zero⟩) ∧
    (P.z ≠ Fq2.zero → rr = Fq2.zero → g2Add P (g2Neg P) = g2Dbl P) ∧
    (∀ v w : Fq2, v.mul P.z = Fq2.one → w.mul Q.z = Fq2.one → g2PEq (g2Neg P) Q = true → (g2Add P Q).z = Fq2.zero) ∧
    (P.z = Fq2.zero → (g2Dbl P).z = Fq2.zero)) ∧
  g1Dbl ⟨1, 1, 0⟩ = ⟨1, 1, 0⟩ ∧ g2Dbl ⟨Fq2.one, Fq2.one, Fq2.zero⟩ = ⟨Fq2.one, Fq2.one, Fq2.zero⟩

/-- SMul: (1, 1, 0) for 0, the point's own coordinates for 1, and for k > 0 one doubling for 2k and one doubling and one addition of P
for 2k + 1. MultiMul: a negative coefficient is that of Neg of its point; (1, 1, 0) where all coefficients are 0; and for coefficients
k_i not negative one doubling of MultiMul of the k_i div 2, then, in increasing i, one addition of P_i where k_i is odd
(43_groups.md R240, R244, R253, R263). -/
def Obligations.ScalarMultiplicationDoublesAndAdds : Prop :=
  (∀ P : G1, g1SMul P 0 = ⟨1, 1, 0⟩ ∧ g1SMul P 1 = P ∧
    ∀ k > 0, g1SMul P (2 * k) = g1Dbl (g1SMul P k) ∧ g1SMul P (2 * k + 1) = g1Add (g1Dbl (g1SMul P k)) P) ∧
  (∀ P : G2, g2SMul P 0 = ⟨Fq2.one, Fq2.one, Fq2.zero⟩ ∧ g2SMul P 1 = P ∧
    ∀ k > 0, g2SMul P (2 * k) = g2Dbl (g2SMul P k) ∧ g2SMul P (2 * k + 1) = g2Add (g2Dbl (g2SMul P k)) P) ∧
  (∀ (pk : List (G1 × Int)) (pn : List (G1 × Nat)),
    let mul := fun l : List (G1 × Nat) => g1MultiMul (l.map fun p => (p.1, (p.2 : Int)))
    g1MultiMul pk = mul (pk.map fun p => (if 0 ≤ p.2 then p.1 else g1Neg p.1, p.2.natAbs)) ∧
    ((∀ p ∈ pn, p.2 = 0) → mul pn = ⟨1, 1, 0⟩) ∧
    mul pn = pn.foldl (fun acc p => if p.2 % 2 = 1 then g1Add acc p.1 else acc) (g1Dbl (mul (pn.map fun p => (p.1, p.2 / 2))))) ∧
  ∀ (pk : List (G2 × Int)) (pn : List (G2 × Nat)),
    let mul := fun l : List (G2 × Nat) => g2MultiMul (l.map fun p => (p.1, (p.2 : Int)))
    g2MultiMul pk = mul (pk.map fun p => (if 0 ≤ p.2 then p.1 else g2Neg p.1, p.2.natAbs)) ∧
    ((∀ p ∈ pn, p.2 = 0) → mul pn = ⟨Fq2.one, Fq2.one, Fq2.zero⟩) ∧
    mul pn = pn.foldl (fun acc p => if p.2 % 2 = 1 then g2Add acc p.1 else acc) (g2Dbl (mul (pn.map fun p => (p.1, p.2 / 2))))

/-! ### Lattice -/

/-- Decompose for every n below r: the coefficients reconstruct n modulo r by the powers of the eigenvalue, meet the bounds, and so fit
the signed 384-bit view: the two's complement word of each shows it (44_lattice.md R292; 10_state.md R28). -/
def Obligations.DecompositionReconstructsWithinBounds : Prop :=
  ∀ n : Nat, n < Config.r →
    (∃ c0 c1 : Int, decompose1 n = [c0, c1] ∧ (c0 + c1 * (Config.u ^ 2 - 1) - n) % (Config.r : Int) = 0 ∧
      c0.natAbs ≤ 114494405076324789032426788480197066752 ∧ c1.natAbs ≤ 114494405076324789032426788480197066752) ∧
    (∃ c0 c1 c2 c3 : Int, decompose2 n = [c0, c1, c2, c3] ∧
      (c0 + c1 * Config.u + c2 * Config.u ^ 2 + c3 * Config.u ^ 3 - n) % (Config.r : Int) = 0 ∧
      c0.natAbs ≤ 7566188111470821376 ∧ c1.natAbs ≤ 7566188111470821376 ∧ c2.natAbs ≤ 7566188111470821377 ∧
      c3.natAbs ≤ 7566188111470821376) ∧
    ∀ c : Int, c ∈ decompose1 n ++ decompose2 n → (BitVec.ofInt 384 c).toInt = c

/-- LAT.DECOMP1 and LAT.DECOMP2 write the coefficients of an integer below r in two's complement, raise SCALAR_RANGE for any other,
and SLOT_RANGE for a result past slot 255; r - 1 gives -1, 384 one-bits, and zeros (44_lattice.md R293, R294; 30_encoding.md R97). -/
def Obligations.LatticeCommandsWriteTheCoefficients : Prop :=
  ∀ (s : State) (d a : SlotNo),
    let n := (s.slot a.toNat).toNat
    (encode (.latDecomp1 d a) = encodeWord 0x90 d a 0 0 ∧ encode (.latDecomp2 d a) = encodeWord 0x91 d a 0 0) ∧
    (d.toNat + 2 ≤ 256 →
      (n < Config.r → ∃ c0 c1 : Int, decompose1 n = [c0, c1] ∧
        s.Writes (exec (.latDecomp1 d a) s) d [BitVec.ofInt 384 c0, BitVec.ofInt 384 c1]) ∧
      (Config.r ≤ n → s.Fails (exec (.latDecomp1 d a) s) .scalarRange)) ∧
    (d.toNat + 4 ≤ 256 →
      (n < Config.r → ∃ c0 c1 c2 c3 : Int, decompose2 n = [c0, c1, c2, c3] ∧
        s.Writes (exec (.latDecomp2 d a) s) d
          [BitVec.ofInt 384 c0, BitVec.ofInt 384 c1, BitVec.ofInt 384 c2, BitVec.ofInt 384 c3]) ∧
      (Config.r ≤ n → s.Fails (exec (.latDecomp2 d a) s) .scalarRange)) ∧
    (d.toNat + 2 ≤ 256 → n = Config.r - 1 → s.Writes (exec (.latDecomp1 d a) s) d [BitVec.allOnes 384, 0]) ∧
    (d.toNat + 4 ≤ 256 → n = Config.r - 1 → s.Writes (exec (.latDecomp2 d a) s) d [BitVec.allOnes 384, 0, 0, 0]) ∧
    (256 < d.toNat + 2 → s.Fails (exec (.latDecomp1 d a) s) .slotRange) ∧
    (256 < d.toNat + 4 → s.Fails (exec (.latDecomp2 d a) s) .slotRange)

/-! ### Pairing -/

/-- LINEDBL on readable operands writes Dbl(R), with T, and the coefficients of the tangent line; LINEADD writes the point and the
coefficients of the chord, all as expressions in the inputs, for every R, identities and R = ±Q included. The model's own line steps
are these, and where R is no identity and not the point Q the chord's point is Add(R, (xQ, yQ, 1)), coordinate for coordinate
(45_pairing.md R300 to R304). -/
def Obligations.LineStepCommands : Prop :=
  (∀ (s : State) (d a b : SlotNo),
    let R := s.g2At a.toNat
    let tl := tangentLine R (s.fqAt b.toNat) (s.fqAt (b.toNat + 1))
    let xQ := s.fq2At b.toNat
    let yQ := s.fq2At (b.toNat + 2)
    let cl := chordLine R xQ yQ (s.fqAt (b.toNat + 4)) (s.fqAt (b.toNat + 5))
    (encode (.linedbl d a b) = encodeWord 0x80 d a b 0 ∧ encode (.lineadd d a b) = encodeWord 0x81 d a b 0) ∧
    (s.Ready (.linedbl d a b) → s.Writes (exec (.linedbl d a b) s) d
      (g2Words (g2Dbl R) ++ fq2Words tl.l0 ++ fq2Words tl.l1 ++ fq2Words tl.l4)) ∧
    (s.Ready (.lineadd d a b) → s.Writes (exec (.lineadd d a b) s) d
      (g2Words (chordPoint R xQ yQ) ++ fq2Words cl.l0 ++ fq2Words cl.l1 ++ fq2Words cl.l4))) ∧
  ∀ (R : G2) (xQ yQ : Fq2) (xP yP : Fq),
    lineDbl R (tOf R) xP yP = (g2Dbl R, tangentLine R xP yP) ∧
    lineAdd R (tOf R) xQ yQ xP yP = (chordPoint R xQ yQ, chordLine R xQ yQ xP yP) ∧
    (R.z ≠ Fq2.zero → g2PEq R ⟨xQ, yQ, Fq2.one⟩ = false → chordPoint R xQ yQ = g2Add R ⟨xQ, yQ, Fq2.one⟩)

/-- The Miller function as the loop over the bits 62 to 0 of |u|, set at 62, 60, 57, 48 and 16, with a squaring in every iteration (the
first squares 1), a doubling step with the tangent line, and an addition step with the chord's line where the bit is set; conjugated at
the end (45_pairing.md R300 to R302, R305). -/
def Obligations.MillerIsTheLoopOverTheBits : Prop :=
  ∀ (xP yP : Fq) (xQ yQ : Fq2),
    let line := fun l : Line => (⟨⟨l.l0, l.l1, Fq2.zero⟩, ⟨Fq2.zero, l.l4, Fq2.zero⟩⟩ : Fq12)
    let iter := fun (p : G2 × Fq12) (b : Nat) =>
      let R := g2Dbl p.1
      let f := (p.2.mul p.2).mul (line (tangentLine p.1 xP yP))
      if b = 62 ∨ b = 60 ∨ b = 57 ∨ b = 48 ∨ b = 16 then (chordPoint R xQ yQ, f.mul (line (chordLine R xQ yQ xP yP))) else (R, f)
    millerValue xP yP xQ yQ = ((List.range 63).reverse.foldl iter (⟨xQ, yQ, Fq2.one⟩, Fq12.one)).2.conj

/-- MILLER on readable operands writes the Miller value; FINEXP of a non-zero value its final exponentiation, of 0 it raises
DIVISION_BY_ZERO; PAIR writes 1 for an identity operand and otherwise the final exponentiation of the Miller value of the affine
points, or raises DIVISION_BY_ZERO where that is 0 (45_pairing.md R306, R308, R309). -/
def Obligations.PairingCommands : Prop :=
  ∀ (s : State) (d a b : SlotNo),
    let P := s.g1At a.toNat
    let Q := s.g2At b.toNat
    (encode (.miller d a b) = encodeWord 0x82 d a b 0 ∧ encode (.finexp d a) = encodeWord 0x83 d a 0 0 ∧
      encode (.pair d a b) = encodeWord 0x84 d a b 0) ∧
    (s.Ready (.miller d a b) → s.Writes (exec (.miller d a b) s) d
      (fq12Words (millerValue (s.fqAt a.toNat) (s.fqAt (a.toNat + 1)) (s.fq2At b.toNat) (s.fq2At (b.toNat + 2))))) ∧
    (s.Ready (.finexp d a) →
      (s.fq12At a.toNat ≠ Fq12.zero → s.Writes (exec (.finexp d a) s) d (fq12Words (finalExp (s.fq12At a.toNat)))) ∧
      (s.fq12At a.toNat = Fq12.zero → s.Fails (exec (.finexp d a) s) .divisionByZero)) ∧
    (s.Ready (.pair d a b) →
      ((P.z = 0 ∨ Q.z = Fq2.zero) → s.Writes (exec (.pair d a b) s) d (fqToWord 1 :: List.replicate 11 0)) ∧
      (P.z ≠ 0 → Q.z ≠ Fq2.zero →
        (pairMiller P Q ≠ Fq12.zero → s.Writes (exec (.pair d a b) s) d (fq12Words (finalExp (pairMiller P Q)))) ∧
        (pairMiller P Q = Fq12.zero → s.Fails (exec (.pair d a b) s) .divisionByZero)))

/-- The final exponentiation: the easy part is Frob12(t, 2)·t for t = conj(m)·m^-1, and the hard part is the value of the spec's chain
with its steps gathered (`gatheredChain`); FinalExp(1) = 1, and FinalExp respects products (45_pairing.md R307). FINEXP and PAIR write
this value by the statement before this one. -/
def Obligations.FinalExponentiationIsTheChain : Prop :=
  (∀ m : Fq12,
    let t := m.conj.mul m.inverse
    finalExp m = gatheredChain ((t.frob 2).mul t)) ∧
  finalExp Fq12.one = Fq12.one ∧
  ∀ m n : Fq12, finalExp (m.mul n) = (finalExp m).mul (finalExp n)
end

