-- ==== Sys2Proof/Laws/State.lean ====
section
/-! SUPPORT. One lemma for each field of each state update, and the slot and frame laws of the updates. -/

namespace Sys2Proof.Machine

set_option Elab.async false

/-! ### `State.setSlot` -/

@[simp] theorem State.setSlot_slots (s : State) (n : Nat) (v : SlotWord) : (s.setSlot n v).slots = s.slots.setIfInBounds n v := rfl
@[simp] theorem State.setSlot_doneIe (s : State) (n : Nat) (v : SlotWord) : (s.setSlot n v).doneIe = s.doneIe := rfl
@[simp] theorem State.setSlot_errIe (s : State) (n : Nat) (v : SlotWord) : (s.setSlot n v).errIe = s.errIe := rfl
@[simp] theorem State.setSlot_done (s : State) (n : Nat) (v : SlotWord) : (s.setSlot n v).done = s.done := rfl
@[simp] theorem State.setSlot_err (s : State) (n : Nat) (v : SlotWord) : (s.setSlot n v).err = s.err := rfl
@[simp] theorem State.setSlot_eq (s : State) (n : Nat) (v : SlotWord) : (s.setSlot n v).eq = s.eq := rfl
@[simp] theorem State.setSlot_errcode (s : State) (n : Nat) (v : SlotWord) : (s.setSlot n v).errcode = s.errcode := rfl
@[simp] theorem State.setSlot_errinfo (s : State) (n : Nat) (v : SlotWord) : (s.setSlot n v).errinfo = s.errinfo := rfl
@[simp] theorem State.setSlot_entropy (s : State) (n : Nat) (v : SlotWord) : (s.setSlot n v).entropy = s.entropy := rfl
@[simp] theorem State.setSlot_inflight (s : State) (n : Nat) (v : SlotWord) : (s.setSlot n v).inflight = s.inflight := rfl
@[simp] theorem State.setSlot_wait (s : State) (n : Nat) (v : SlotWord) : (s.setSlot n v).wait = s.wait := rfl
@[simp] theorem State.setSlot_pending (s : State) (n : Nat) (v : SlotWord) : (s.setSlot n v).pending = s.pending := rfl
@[simp] theorem State.setSlot_rdata (s : State) (n : Nat) (v : SlotWord) : (s.setSlot n v).rdata = s.rdata := rfl

/-! ### `State.complete` -/

@[simp] theorem State.complete_slots (s : State) : (s.complete).slots = s.slots := rfl
@[simp] theorem State.complete_doneIe (s : State) : (s.complete).doneIe = s.doneIe := rfl
@[simp] theorem State.complete_errIe (s : State) : (s.complete).errIe = s.errIe := rfl
@[simp] theorem State.complete_done (s : State) : (s.complete).done = true := rfl
@[simp] theorem State.complete_err (s : State) : (s.complete).err = s.err := rfl
@[simp] theorem State.complete_eq (s : State) : (s.complete).eq = s.eq := rfl
@[simp] theorem State.complete_errcode (s : State) : (s.complete).errcode = s.errcode := rfl
@[simp] theorem State.complete_errinfo (s : State) : (s.complete).errinfo = s.errinfo := rfl
@[simp] theorem State.complete_entropy (s : State) : (s.complete).entropy = s.entropy := rfl
@[simp] theorem State.complete_inflight (s : State) : (s.complete).inflight = none := rfl
@[simp] theorem State.complete_wait (s : State) : (s.complete).wait = s.wait := rfl
@[simp] theorem State.complete_pending (s : State) : (s.complete).pending = s.pending := rfl
@[simp] theorem State.complete_rdata (s : State) : (s.complete).rdata = s.rdata := rfl

/-! ### `State.raise` -/

@[simp] theorem State.raise_slots (s : State) (c : ErrCode) : (s.raise c).slots = s.slots := rfl
@[simp] theorem State.raise_doneIe (s : State) (c : ErrCode) : (s.raise c).doneIe = s.doneIe := rfl
@[simp] theorem State.raise_errIe (s : State) (c : ErrCode) : (s.raise c).errIe = s.errIe := rfl
@[simp] theorem State.raise_done (s : State) (c : ErrCode) : (s.raise c).done = s.done := rfl
@[simp] theorem State.raise_err (s : State) (c : ErrCode) : (s.raise c).err = true := rfl
@[simp] theorem State.raise_eq (s : State) (c : ErrCode) : (s.raise c).eq = s.eq := rfl
@[simp] theorem State.raise_errcode (s : State) (c : ErrCode) : (s.raise c).errcode = c.code := rfl
@[simp] theorem State.raise_errinfo (s : State) (c : ErrCode) : (s.raise c).errinfo = s.inflight.getD 0 := rfl
@[simp] theorem State.raise_entropy (s : State) (c : ErrCode) : (s.raise c).entropy = s.entropy := rfl
@[simp] theorem State.raise_inflight (s : State) (c : ErrCode) : (s.raise c).inflight = none := rfl
@[simp] theorem State.raise_wait (s : State) (c : ErrCode) : (s.raise c).wait = s.wait := rfl
@[simp] theorem State.raise_pending (s : State) (c : ErrCode) : (s.raise c).pending = s.pending := rfl
@[simp] theorem State.raise_rdata (s : State) (c : ErrCode) : (s.raise c).rdata = s.rdata := rfl

/-! ### `State.clearError` -/

@[simp] theorem State.clearError_slots (s : State) : (s.clearError).slots = s.slots := rfl
@[simp] theorem State.clearError_doneIe (s : State) : (s.clearError).doneIe = s.doneIe := rfl
@[simp] theorem State.clearError_errIe (s : State) : (s.clearError).errIe = s.errIe := rfl
@[simp] theorem State.clearError_done (s : State) : (s.clearError).done = s.done := rfl
@[simp] theorem State.clearError_err (s : State) : (s.clearError).err = false := rfl
@[simp] theorem State.clearError_eq (s : State) : (s.clearError).eq = s.eq := rfl
@[simp] theorem State.clearError_errcode (s : State) : (s.clearError).errcode = 0 := rfl
@[simp] theorem State.clearError_errinfo (s : State) : (s.clearError).errinfo = 0 := rfl
@[simp] theorem State.clearError_entropy (s : State) : (s.clearError).entropy = s.entropy := rfl
@[simp] theorem State.clearError_inflight (s : State) : (s.clearError).inflight = s.inflight := rfl
@[simp] theorem State.clearError_wait (s : State) : (s.clearError).wait = s.wait := rfl
@[simp] theorem State.clearError_pending (s : State) : (s.clearError).pending = s.pending := rfl
@[simp] theorem State.clearError_rdata (s : State) : (s.clearError).rdata = s.rdata := rfl

/-! ### `State.softReset` -/

@[simp] theorem State.softReset_slots (s : State) : (s.softReset).slots = s.slots := rfl
@[simp] theorem State.softReset_doneIe (s : State) : (s.softReset).doneIe = false := rfl
@[simp] theorem State.softReset_errIe (s : State) : (s.softReset).errIe = false := rfl
@[simp] theorem State.softReset_done (s : State) : (s.softReset).done = false := rfl
@[simp] theorem State.softReset_err (s : State) : (s.softReset).err = false := rfl
@[simp] theorem State.softReset_eq (s : State) : (s.softReset).eq = false := rfl
@[simp] theorem State.softReset_errcode (s : State) : (s.softReset).errcode = 0 := rfl
@[simp] theorem State.softReset_errinfo (s : State) : (s.softReset).errinfo = 0 := rfl
@[simp] theorem State.softReset_entropy (s : State) : (s.softReset).entropy = [] := rfl
@[simp] theorem State.softReset_inflight (s : State) : (s.softReset).inflight = s.inflight := rfl
@[simp] theorem State.softReset_wait (s : State) : (s.softReset).wait = s.wait := rfl
@[simp] theorem State.softReset_pending (s : State) : (s.softReset).pending = s.pending := rfl
@[simp] theorem State.softReset_rdata (s : State) : (s.softReset).rdata = s.rdata := rfl

/-! ### `State.placeCommand` -/

@[simp] theorem State.placeCommand_slots (s : State) (w : Word) : (s.placeCommand w).slots = s.slots := rfl
@[simp] theorem State.placeCommand_doneIe (s : State) (w : Word) : (s.placeCommand w).doneIe = s.doneIe := rfl
@[simp] theorem State.placeCommand_errIe (s : State) (w : Word) : (s.placeCommand w).errIe = s.errIe := rfl
@[simp] theorem State.placeCommand_done (s : State) (w : Word) : (s.placeCommand w).done = false := rfl
@[simp] theorem State.placeCommand_err (s : State) (w : Word) : (s.placeCommand w).err = s.err := rfl
@[simp] theorem State.placeCommand_eq (s : State) (w : Word) : (s.placeCommand w).eq = s.eq := rfl
@[simp] theorem State.placeCommand_errcode (s : State) (w : Word) : (s.placeCommand w).errcode = s.errcode := rfl
@[simp] theorem State.placeCommand_errinfo (s : State) (w : Word) : (s.placeCommand w).errinfo = s.errinfo := rfl
@[simp] theorem State.placeCommand_entropy (s : State) (w : Word) : (s.placeCommand w).entropy = s.entropy := rfl
@[simp] theorem State.placeCommand_inflight (s : State) (w : Word) : (s.placeCommand w).inflight = some w := rfl
@[simp] theorem State.placeCommand_wait (s : State) (w : Word) : (s.placeCommand w).wait = 0 := rfl
@[simp] theorem State.placeCommand_pending (s : State) (w : Word) : (s.placeCommand w).pending = s.pending.filter Access.held := rfl
@[simp] theorem State.placeCommand_rdata (s : State) (w : Word) : (s.placeCommand w).rdata = s.rdata := rfl

/-! ### `State.accessError`: what it never changes -/

@[simp] theorem State.accessError_slots (s : State) (off : Nat) : (s.accessError off).slots = s.slots := by
  unfold State.accessError; split <;> rfl
@[simp] theorem State.accessError_doneIe (s : State) (off : Nat) : (s.accessError off).doneIe = s.doneIe := by
  unfold State.accessError; split <;> rfl
@[simp] theorem State.accessError_errIe (s : State) (off : Nat) : (s.accessError off).errIe = s.errIe := by
  unfold State.accessError; split <;> rfl
@[simp] theorem State.accessError_done (s : State) (off : Nat) : (s.accessError off).done = s.done := by
  unfold State.accessError; split <;> rfl
@[simp] theorem State.accessError_eq (s : State) (off : Nat) : (s.accessError off).eq = s.eq := by
  unfold State.accessError; split <;> rfl
@[simp] theorem State.accessError_entropy (s : State) (off : Nat) : (s.accessError off).entropy = s.entropy := by
  unfold State.accessError; split <;> rfl
@[simp] theorem State.accessError_inflight (s : State) (off : Nat) : (s.accessError off).inflight = s.inflight := by
  unfold State.accessError; split <;> rfl
@[simp] theorem State.accessError_wait (s : State) (off : Nat) : (s.accessError off).wait = s.wait := by
  unfold State.accessError; split <;> rfl
@[simp] theorem State.accessError_pending (s : State) (off : Nat) : (s.accessError off).pending = s.pending := by
  unfold State.accessError; split <;> rfl
@[simp] theorem State.accessError_rdata (s : State) (off : Nat) : (s.accessError off).rdata = s.rdata := by
  unfold State.accessError; split <;> rfl

/-! ### `State.pushEntropy`: what it never changes -/

@[simp] theorem State.pushEntropy_slots (s : State) (v : Word) : (s.pushEntropy v).slots = s.slots := by
  unfold State.pushEntropy; split <;> rfl
@[simp] theorem State.pushEntropy_doneIe (s : State) (v : Word) : (s.pushEntropy v).doneIe = s.doneIe := by
  unfold State.pushEntropy; split <;> rfl
@[simp] theorem State.pushEntropy_errIe (s : State) (v : Word) : (s.pushEntropy v).errIe = s.errIe := by
  unfold State.pushEntropy; split <;> rfl
@[simp] theorem State.pushEntropy_done (s : State) (v : Word) : (s.pushEntropy v).done = s.done := by
  unfold State.pushEntropy; split <;> rfl
@[simp] theorem State.pushEntropy_err (s : State) (v : Word) : (s.pushEntropy v).err = s.err := by
  unfold State.pushEntropy; split <;> rfl
@[simp] theorem State.pushEntropy_eq (s : State) (v : Word) : (s.pushEntropy v).eq = s.eq := by
  unfold State.pushEntropy; split <;> rfl
@[simp] theorem State.pushEntropy_errcode (s : State) (v : Word) : (s.pushEntropy v).errcode = s.errcode := by
  unfold State.pushEntropy; split <;> rfl
@[simp] theorem State.pushEntropy_errinfo (s : State) (v : Word) : (s.pushEntropy v).errinfo = s.errinfo := by
  unfold State.pushEntropy; split <;> rfl
@[simp] theorem State.pushEntropy_inflight (s : State) (v : Word) : (s.pushEntropy v).inflight = s.inflight := by
  unfold State.pushEntropy; split <;> rfl
@[simp] theorem State.pushEntropy_wait (s : State) (v : Word) : (s.pushEntropy v).wait = s.wait := by
  unfold State.pushEntropy; split <;> rfl
@[simp] theorem State.pushEntropy_pending (s : State) (v : Word) : (s.pushEntropy v).pending = s.pending := by
  unfold State.pushEntropy; split <;> rfl
@[simp] theorem State.pushEntropy_rdata (s : State) (v : Word) : (s.pushEntropy v).rdata = s.rdata := by
  unfold State.pushEntropy; split <;> rfl

/-! ### `State.accept`: what it never changes -/

@[simp] theorem State.accept_slots (s : State) (v : Word) : (s.accept v).slots = s.slots := by
  unfold State.accept; split <;> rfl
@[simp] theorem State.accept_doneIe (s : State) (v : Word) : (s.accept v).doneIe = s.doneIe := by
  unfold State.accept; split <;> rfl
@[simp] theorem State.accept_errIe (s : State) (v : Word) : (s.accept v).errIe = s.errIe := by
  unfold State.accept; split <;> rfl
@[simp] theorem State.accept_err (s : State) (v : Word) : (s.accept v).err = s.err := by
  unfold State.accept; split <;> rfl
@[simp] theorem State.accept_eq (s : State) (v : Word) : (s.accept v).eq = s.eq := by
  unfold State.accept; split <;> rfl
@[simp] theorem State.accept_errcode (s : State) (v : Word) : (s.accept v).errcode = s.errcode := by
  unfold State.accept; split <;> rfl
@[simp] theorem State.accept_errinfo (s : State) (v : Word) : (s.accept v).errinfo = s.errinfo := by
  unfold State.accept; split <;> rfl
@[simp] theorem State.accept_entropy (s : State) (v : Word) : (s.accept v).entropy = s.entropy := by
  unfold State.accept; split <;> rfl
@[simp] theorem State.accept_pending (s : State) (v : Word) : (s.accept v).pending = s.pending := by
  unfold State.accept; split <;> rfl
@[simp] theorem State.accept_rdata (s : State) (v : Word) : (s.accept v).rdata = s.rdata := by
  unfold State.accept; split <;> rfl

/-! ### `State.writeCtrl`: what it never changes -/

@[simp] theorem State.writeCtrl_slots (s : State) (v : Word) : (s.writeCtrl v).slots = s.slots := by
  unfold State.writeCtrl; split <;> rfl
@[simp] theorem State.writeCtrl_inflight (s : State) (v : Word) : (s.writeCtrl v).inflight = s.inflight := by
  unfold State.writeCtrl; split <;> rfl
@[simp] theorem State.writeCtrl_wait (s : State) (v : Word) : (s.writeCtrl v).wait = s.wait := by
  unfold State.writeCtrl; split <;> rfl
@[simp] theorem State.writeCtrl_pending (s : State) (v : Word) : (s.writeCtrl v).pending = s.pending := by
  unfold State.writeCtrl; split <;> rfl
@[simp] theorem State.writeCtrl_rdata (s : State) (v : Word) : (s.writeCtrl v).rdata = s.rdata := by
  unfold State.writeCtrl; split <;> rfl

/-! ### `State.writeStatus`: what it never changes -/

@[simp] theorem State.writeStatus_slots (s : State) (v : Word) : (s.writeStatus v).slots = s.slots := by
  unfold State.writeStatus; dsimp only; split <;> split <;> rfl
@[simp] theorem State.writeStatus_doneIe (s : State) (v : Word) : (s.writeStatus v).doneIe = s.doneIe := by
  unfold State.writeStatus; dsimp only; split <;> split <;> rfl
@[simp] theorem State.writeStatus_errIe (s : State) (v : Word) : (s.writeStatus v).errIe = s.errIe := by
  unfold State.writeStatus; dsimp only; split <;> split <;> rfl
@[simp] theorem State.writeStatus_eq (s : State) (v : Word) : (s.writeStatus v).eq = s.eq := by
  unfold State.writeStatus; dsimp only; split <;> split <;> rfl
@[simp] theorem State.writeStatus_entropy (s : State) (v : Word) : (s.writeStatus v).entropy = s.entropy := by
  unfold State.writeStatus; dsimp only; split <;> split <;> rfl
@[simp] theorem State.writeStatus_inflight (s : State) (v : Word) : (s.writeStatus v).inflight = s.inflight := by
  unfold State.writeStatus; dsimp only; split <;> split <;> rfl
@[simp] theorem State.writeStatus_wait (s : State) (v : Word) : (s.writeStatus v).wait = s.wait := by
  unfold State.writeStatus; dsimp only; split <;> split <;> rfl
@[simp] theorem State.writeStatus_pending (s : State) (v : Word) : (s.writeStatus v).pending = s.pending := by
  unfold State.writeStatus; dsimp only; split <;> split <;> rfl
@[simp] theorem State.writeStatus_rdata (s : State) (v : Word) : (s.writeStatus v).rdata = s.rdata := by
  unfold State.writeStatus; dsimp only; split <;> split <;> rfl

/-! ### `State.writeRun`: what it never changes -/

@[simp] theorem State.writeRun_doneIe (s : State) (d : Nat) (ws : List SlotWord) : (s.writeRun d ws).doneIe = s.doneIe := by
  induction ws generalizing s d with
  | nil => rfl
  | cons w ws ih => exact (ih (s.setSlot d w) (d + 1)).trans rfl
@[simp] theorem State.writeRun_errIe (s : State) (d : Nat) (ws : List SlotWord) : (s.writeRun d ws).errIe = s.errIe := by
  induction ws generalizing s d with
  | nil => rfl
  | cons w ws ih => exact (ih (s.setSlot d w) (d + 1)).trans rfl
@[simp] theorem State.writeRun_done (s : State) (d : Nat) (ws : List SlotWord) : (s.writeRun d ws).done = s.done := by
  induction ws generalizing s d with
  | nil => rfl
  | cons w ws ih => exact (ih (s.setSlot d w) (d + 1)).trans rfl
@[simp] theorem State.writeRun_err (s : State) (d : Nat) (ws : List SlotWord) : (s.writeRun d ws).err = s.err := by
  induction ws generalizing s d with
  | nil => rfl
  | cons w ws ih => exact (ih (s.setSlot d w) (d + 1)).trans rfl
@[simp] theorem State.writeRun_eq (s : State) (d : Nat) (ws : List SlotWord) : (s.writeRun d ws).eq = s.eq := by
  induction ws generalizing s d with
  | nil => rfl
  | cons w ws ih => exact (ih (s.setSlot d w) (d + 1)).trans rfl
@[simp] theorem State.writeRun_errcode (s : State) (d : Nat) (ws : List SlotWord) : (s.writeRun d ws).errcode = s.errcode := by
  induction ws generalizing s d with
  | nil => rfl
  | cons w ws ih => exact (ih (s.setSlot d w) (d + 1)).trans rfl
@[simp] theorem State.writeRun_errinfo (s : State) (d : Nat) (ws : List SlotWord) : (s.writeRun d ws).errinfo = s.errinfo := by
  induction ws generalizing s d with
  | nil => rfl
  | cons w ws ih => exact (ih (s.setSlot d w) (d + 1)).trans rfl
@[simp] theorem State.writeRun_entropy (s : State) (d : Nat) (ws : List SlotWord) : (s.writeRun d ws).entropy = s.entropy := by
  induction ws generalizing s d with
  | nil => rfl
  | cons w ws ih => exact (ih (s.setSlot d w) (d + 1)).trans rfl
@[simp] theorem State.writeRun_inflight (s : State) (d : Nat) (ws : List SlotWord) : (s.writeRun d ws).inflight = s.inflight := by
  induction ws generalizing s d with
  | nil => rfl
  | cons w ws ih => exact (ih (s.setSlot d w) (d + 1)).trans rfl
@[simp] theorem State.writeRun_wait (s : State) (d : Nat) (ws : List SlotWord) : (s.writeRun d ws).wait = s.wait := by
  induction ws generalizing s d with
  | nil => rfl
  | cons w ws ih => exact (ih (s.setSlot d w) (d + 1)).trans rfl
@[simp] theorem State.writeRun_pending (s : State) (d : Nat) (ws : List SlotWord) : (s.writeRun d ws).pending = s.pending := by
  induction ws generalizing s d with
  | nil => rfl
  | cons w ws ih => exact (ih (s.setSlot d w) (d + 1)).trans rfl
@[simp] theorem State.writeRun_rdata (s : State) (d : Nat) (ws : List SlotWord) : (s.writeRun d ws).rdata = s.rdata := by
  induction ws generalizing s d with
  | nil => rfl
  | cons w ws ih => exact (ih (s.setSlot d w) (d + 1)).trans rfl

/-! ### Slots -/

/-- A slot is an optional entry of the vector, 0 where there is none. -/
theorem State.slot_eq (s : State) (n : Nat) : s.slot n = (s.slots[n]?).getD 0 := by
  simp [State.slot, Vector.getD]

/-- Reading a slot after writing one: the written value for the slot itself, the old value for every other. -/
theorem State.slot_setSlot (s : State) (n m : Nat) (v : SlotWord) :
    (s.setSlot n v).slot m = if m = n ∧ n < 256 then v else s.slot m := by
  simp only [State.slot_eq, State.setSlot_slots, Vector.getElem?_setIfInBounds]
  by_cases h : n = m
  · subst h
    by_cases hn : n < 256
    · simp [hn]
    · simp [hn]
  · have h' : ¬ m = n := fun e => h e.symm
    simp [h, h']

theorem State.slot_setSlot_self (s : State) (n : Nat) (v : SlotWord) (h : n < 256) : (s.setSlot n v).slot n = v := by
  simp [State.slot_setSlot, h]

theorem State.slot_setSlot_other (s : State) (n m : Nat) (v : SlotWord) (h : m ≠ n) : (s.setSlot n v).slot m = s.slot m := by
  simp [State.slot_setSlot, h]

/-- A number that is no slot reads 0. -/
theorem State.slot_of_ge (s : State) (n : Nat) (h : 256 ≤ n) : s.slot n = 0 := by
  simp [State.slot_eq, h]

/-- States with the same slot vector show the same slots. -/
theorem State.slot_congr (s t : State) (h : t.slots = s.slots) (n : Nat) : t.slot n = s.slot n := by
  unfold State.slot; rw [h]

/-- Two states that show the same slots have the same slot vector. -/
theorem State.slots_ext (s t : State) (h : ∀ n, t.slot n = s.slot n) : t.slots = s.slots := by
  apply Vector.ext
  intro i hi
  have := h i
  simpa [State.slot_eq, Vector.getElem?_eq_getElem hi] using this

@[simp] theorem State.complete_slot (s : State) (n : Nat) : s.complete.slot n = s.slot n := rfl
@[simp] theorem State.raise_slot (s : State) (c : ErrCode) (n : Nat) : (s.raise c).slot n = s.slot n := rfl
@[simp] theorem State.softReset_slot (s : State) (n : Nat) : s.softReset.slot n = s.slot n := rfl
@[simp] theorem State.clearError_slot (s : State) (n : Nat) : s.clearError.slot n = s.slot n := rfl

/-- Every slot after a run is written: the run's words from `d` on, the old value elsewhere. -/
theorem State.slot_writeRun (s : State) (d : Nat) (ws : List SlotWord) (m : Nat) (h : d + ws.length ≤ 256) :
    (s.writeRun d ws).slot m = if d ≤ m ∧ m < d + ws.length then ws.getD (m - d) 0 else s.slot m := by
  induction ws generalizing s d with
  | nil =>
    have h0 : ¬ (d ≤ m ∧ m < d + ([] : List SlotWord).length) := by simp
    rw [if_neg h0]; rfl
  | cons w ws ih =>
    simp only [List.length_cons] at h
    rw [State.writeRun, ih (s.setSlot d w) (d + 1) (by omega), State.slot_setSlot]
    simp only [List.length_cons]
    by_cases h0 : m = d
    · subst h0
      have h1 : ¬ (m + 1 ≤ m ∧ m < m + 1 + ws.length) := by omega
      have h2 : m ≤ m ∧ m < m + (ws.length + 1) := by omega
      have h3 : m < 256 := by omega
      simp [h3]
    · by_cases h1 : d + 1 ≤ m ∧ m < d + 1 + ws.length
      · have h2 : d ≤ m ∧ m < d + (ws.length + 1) := by omega
        have h3 : m - d = (m - (d + 1)) + 1 := by omega
        rw [if_pos h1, if_pos h2, h3, List.getD_cons_succ]
      · have h2 : ¬ (d ≤ m ∧ m < d + (ws.length + 1)) := by omega
        rw [if_neg h1, if_neg h2]
        simp [h0]

/-- The length of a run that is read. -/
@[simp] theorem State.readRun_length (s : State) (a n : Nat) : (s.readRun a n).length = n := by
  induction n generalizing a with
  | zero => rfl
  | succ n ih => simp [State.readRun, ih]

/-- The words of a run that is read. -/
theorem State.readRun_getD (s : State) (a n k : Nat) (h : k < n) : (s.readRun a n).getD k 0 = s.slot (a + k) := by
  induction n generalizing a k with
  | zero => omega
  | succ n ih =>
    cases k with
    | zero => simp [State.readRun]
    | succ k =>
      rw [State.readRun, List.getD_cons_succ, ih (a + 1) k (by omega)]
      congr 1; omega

end Sys2Proof.Machine
end

