-- ==== Sys2Proof/Laws/Ops.lean ====
section
/-! SUPPORT. For each operation the commands share, one lemma that says everything it can do. -/

namespace Sys2Proof.Machine

set_option Elab.async false

/-! ### Checks and reads -/

/-- The slot-range check passes exactly when every operand fits; otherwise it answers SLOT_RANGE. -/
theorem checkSlots_eq (imm : Imm) (os : List (SlotNo × Kind)) :
    checkSlots imm os = if os.all (fun o => fits o.1 (o.2.size imm)) then .ok () else .error .slotRange := by
  induction os with
  | nil => rfl
  | cons o os ih =>
    rw [checkSlots, ih, List.all_cons]
    cases fits o.1 (o.2.size imm)
    · rfl
    · rw [Bool.true_and, if_pos rfl]

theorem State.readFq_eq (s : State) (n : Nat) :
    s.readFq n = if (s.slot n).toNat < Config.q then .ok (s.fqAt n) else .error .noncanonical := by
  unfold State.readFq State.fqAt
  split
  · rw [if_neg (by omega)]
  · rw [if_pos (by omega)]

theorem State.readFr_eq (s : State) (n : Nat) :
    s.readFr n = if (s.slot n).toNat < Config.r then .ok (s.frAt n) else .error .noncanonical := by
  unfold State.readFr State.frAt
  split
  · rw [if_neg (by omega)]
  · rw [if_pos (by omega)]

/-- All slots of a run are canonical exactly when each is. -/
theorem State.allFq_iff (s : State) (n k : Nat) :
    s.allFq n k = true ↔ ∀ j < k, (s.slot (n + j)).toNat < Config.q := by
  simp [State.allFq]

theorem State.allFq_one (s : State) (n : Nat) : s.allFq n 1 = decide ((s.slot n).toNat < Config.q) := by
  simp [State.allFq]

/-- A run is canonical when its two parts are. -/
theorem State.allFq_add (s : State) (n j k : Nat) : s.allFq n (j + k) = (s.allFq n j && s.allFq (n + j) k) := by
  rw [Bool.eq_iff_iff, Bool.and_eq_true, State.allFq_iff, State.allFq_iff, State.allFq_iff]
  constructor
  · intro h
    refine ⟨fun i hi => h i (by omega), fun i hi => ?_⟩
    have := h (j + i) (by omega)
    rwa [← Nat.add_assoc] at this
  · rintro ⟨h1, h2⟩ i hi
    by_cases hij : i < j
    · exact h1 i hij
    · have := h2 (i - j) (by omega)
      rwa [Nat.add_assoc, Nat.add_sub_cancel' (by omega)] at this

/-- What a typed read does: the value if the run is canonical, otherwise the error. -/
def readAs {α : Type} (ok : Bool) (v : α) (c : ErrCode) : Result α := if ok then .ok v else .error c

@[simp] theorem readAs_true {α : Type} (v : α) (c : ErrCode) : readAs true v c = .ok v := rfl

@[simp] theorem readAs_false {α : Type} (v : α) (c : ErrCode) : readAs false v c = .error c := rfl

/-- A value passes on to the rest of a command. -/
@[simp] theorem result_ok_bind {α β : Type} (a : α) (f : α → Result β) : ((.ok a : Result α) >>= f) = f a := rfl

/-- An error ends a command. -/
@[simp] theorem result_error_bind {α β : Type} (c : ErrCode) (f : α → Result β) :
    ((.error c : Result α) >>= f) = .error c := rfl

theorem State.readFq_as (s : State) (n : Nat) : s.readFq n = readAs (s.allFq n 1) (s.fqAt n) .noncanonical := by
  rw [State.readFq_eq, State.allFq_one, readAs]; simp

/-- Two reads one after the other, both with the same error, are one read. -/
theorem readAs_bind {α β : Type} (p q : Bool) (x : α) (y : β) (c : ErrCode) {γ : Type} (f : α → β → γ) :
    (readAs p x c >>= fun a => readAs q y c >>= fun b => (pure (f a b) : Result γ)) = readAs (p && q) (f x y) c := by
  cases p <;> cases q <;> rfl

theorem State.readFq2_eq (s : State) (n : Nat) : s.readFq2 n = readAs (s.allFq n 2) (s.fq2At n) .noncanonical := by
  rw [State.readFq2]
  simp only [State.readFq_as]
  rw [readAs_bind _ _ _ _ _ (fun a b => (⟨a, b⟩ : Fq2)), ← State.allFq_add]; rfl

theorem State.readFq6_eq (s : State) (n : Nat) : s.readFq6 n = readAs (s.allFq n 6) (s.fq6At n) .noncanonical := by
  rw [State.readFq6, State.allFq_add s n 2 4, State.allFq_add s (n + 2) 2 2]
  simp only [State.readFq2_eq, State.fq6At]
  cases s.allFq n 2 <;> cases s.allFq (n + 2) 2 <;> cases s.allFq (n + 4) 2 <;> rfl

theorem State.readFq12_eq (s : State) (n : Nat) : s.readFq12 n = readAs (s.allFq n 12) (s.fq12At n) .noncanonical := by
  rw [State.readFq12]
  simp only [State.readFq6_eq]
  rw [readAs_bind _ _ _ _ _ (fun a b => (⟨a, b⟩ : Fq12)), ← State.allFq_add]; rfl

theorem State.readG1_eq (s : State) (n : Nat) : s.readG1 n = readAs (s.allFq n 3) (s.g1At n) .noncanonical := by
  rw [State.readG1, State.allFq_add s n 1 2, State.allFq_add s (n + 1) 1 1]
  simp only [State.readFq_as, State.g1At]
  cases s.allFq n 1 <;> cases s.allFq (n + 1) 1 <;> cases s.allFq (n + 2) 1 <;> rfl

theorem State.readAff1_eq (s : State) (n : Nat) :
    s.readAff1 n = readAs (s.allFq n 2) (s.fqAt n, s.fqAt (n + 1)) .noncanonical := by
  rw [State.readAff1]
  simp only [State.readFq_as]
  rw [readAs_bind _ _ _ _ _ (fun a b => (a, b)), ← State.allFq_add]

theorem State.readAff2_eq (s : State) (n : Nat) :
    s.readAff2 n = readAs (s.allFq n 4) (s.fq2At n, s.fq2At (n + 2)) .noncanonical := by
  rw [State.readAff2]
  simp only [State.readFq2_eq]
  rw [readAs_bind _ _ _ _ _ (fun a b => (a, b)), ← State.allFq_add]

theorem State.readSp6_eq (s : State) (n : Nat) :
    s.readSp6 n = readAs (s.allFq n 4) (sparse01 (s.fq2At n) (s.fq2At (n + 2))) .noncanonical := by
  rw [State.readSp6]
  simp only [State.readFq2_eq]
  rw [readAs_bind _ _ _ _ _ (fun a b => sparse01 a b), ← State.allFq_add]

theorem State.readSp12_eq (s : State) (n : Nat) :
    s.readSp12 n = readAs (s.allFq n 6) (sparse014 (s.fq2At n) (s.fq2At (n + 2)) (s.fq2At (n + 4))) .noncanonical := by
  rw [State.readSp12, State.allFq_add s n 2 4, State.allFq_add s (n + 2) 2 2]
  simp only [State.readFq2_eq]
  cases s.allFq n 2 <;> cases s.allFq (n + 2) 2 <;> cases s.allFq (n + 4) 2 <;> rfl

/-- A check that answers a value or an error. -/
theorem guard_readAs {α : Type} (p : Prop) [Decidable p] (v : α) (c : ErrCode) :
    (if p then (pure v : Result α) else .error c) = readAs (decide p) v c := by
  by_cases h : p
  · rw [if_pos h, decide_eq_true h]; rfl
  · rw [if_neg h, decide_eq_false h]; rfl

/-- Four reads one after the other with the same error, and then a last step. -/
theorem readAs_four {α β : Type} (p q u v : Bool) (w x y z : α) (c : ErrCode) (f : α → α → α → α → Result β) :
    (readAs p w c >>= fun a => readAs q x c >>= fun b => readAs u y c >>= fun d => readAs v z c >>= fun e => f a b d e) =
      if p && (q && (u && v)) then f w x y z else .error c := by
  cases p <;> cases q <;> cases u <;> cases v <;> rfl

/-- A G2 read: NONCANONICAL if one of its eight slots is out of Fq, then T_INVARIANT unless T = Z·Z, otherwise X, Y and Z. -/
theorem State.readG2_eq (s : State) (n : Nat) :
    s.readG2 n = if s.allFq n 8 then
      readAs (decide (s.fq2At (n + 6) = (s.fq2At (n + 4)).mul (s.fq2At (n + 4)))) (s.g2At n) .tInvariant
    else .error .noncanonical := by
  rw [State.readG2, State.allFq_add s n 2 6, State.allFq_add s (n + 2) 2 4, State.allFq_add s (n + 4) 2 2,
    State.readFq2_eq, State.readFq2_eq, State.readFq2_eq, State.readFq2_eq, readAs_four, guard_readAs, State.g2At]

/-! ### How commands end -/

/-- Writing a run inside the slot file and completing. -/
theorem State.finishSlots_ok (s : State) (d : SlotNo) (ws : List SlotWord) (h : d.toNat + ws.length ≤ 256) :
    s.Writes (s.finishSlots d (.ok ws)) d ws := by
  refine ⟨_, rfl, ⟨rfl, rfl, ?_, ?_, ?_, ?_, ?_, ?_, ?_, ?_⟩, ⟨?_, ?_⟩, ?_, ?_⟩
  all_goals try simp
  · intro k hk
    rw [State.slot_writeRun s _ ws _ h, if_pos (by omega)]
    simp [hk]
  · intro n hn
    rw [State.slot_writeRun s _ ws _ h, if_neg (by omega)]

/-- A command that computed an error records it and writes nothing. -/
theorem State.finishSlots_error (s : State) (d : SlotNo) (c : ErrCode) : s.Fails (s.finishSlots d (.error c)) c :=
  ⟨_, rfl, ⟨rfl, rfl, rfl, rfl, rfl, rfl, rfl, rfl, rfl, rfl, rfl, rfl⟩, rfl⟩

theorem State.finishEq_ok (s : State) (b : Bool) : s.SetsEq (s.finishEq (.ok b)) b :=
  ⟨_, rfl, ⟨rfl, rfl, rfl, rfl, rfl, rfl, rfl, rfl, rfl, rfl⟩, rfl, rfl, rfl⟩

theorem State.finishEq_error (s : State) (c : ErrCode) : s.Fails (s.finishEq (.error c)) c :=
  ⟨_, rfl, ⟨rfl, rfl, rfl, rfl, rfl, rfl, rfl, rfl, rfl, rfl, rfl, rfl⟩, rfl⟩

/-! ### Host accesses -/

/-- `takeUnheld` finds none exactly when every access is held. -/
theorem takeUnheld_none (xs : List Access) : takeUnheld xs = none ↔ ∀ x ∈ xs, x.held = true := by
  induction xs with
  | nil => simp [takeUnheld]
  | cons x xs ih =>
    unfold takeUnheld
    cases hx : x.held
    · simp [hx]
    · simp only [if_true, List.forall_mem_cons, hx, true_and, ← ih]
      cases takeUnheld xs <;> simp

/-- What `takeUnheld` finds: the first access that is not held, the held ones before it and all others keep their order. -/
theorem takeUnheld_some (xs : List Access) (x : Access) (rest : List Access) (h : takeUnheld xs = some (x, rest)) :
    ∃ pre post, xs = pre ++ x :: post ∧ rest = pre ++ post ∧ x.held = false ∧ ∀ y ∈ pre, y.held = true := by
  induction xs generalizing x rest with
  | nil => simp [takeUnheld] at h
  | cons y ys ih =>
    unfold takeUnheld at h
    cases hy : y.held
    · simp only [hy, Bool.false_eq_true, if_false, Option.some.injEq, Prod.mk.injEq] at h
      obtain ⟨rfl, rfl⟩ := h
      exact ⟨[], ys, rfl, rfl, hy, by simp⟩
    · rw [hy, if_pos rfl] at h
      cases ht : takeUnheld ys with
      | none => rw [ht] at h; simp at h
      | some p =>
        obtain ⟨z, zs⟩ := p
        rw [ht] at h
        simp only [Option.some.injEq, Prod.mk.injEq] at h
        obtain ⟨rfl, rfl⟩ := h
        obtain ⟨pre, post, h1, h2, h3, h4⟩ := ih z zs ht
        refine ⟨y :: pre, post, by rw [h1]; rfl, by rw [h2]; rfl, h3, ?_⟩
        intro w hw
        cases hw with
        | head => exact hy
        | tail _ hw => exact h4 w hw

/-- An access that is not held is a proper read below the slot window, or a proper write there to none of CTRL, STATUS, CMD and
ENTROPY. -/
theorem Access.not_held (x : Access) (h : x.held = false) :
    (∃ off, x = .read off 8 ∧ off % 8 = 0 ∧ off < windowBase) ∨
    ∃ off v, x = .write off 8 v ∧ off % 8 = 0 ∧ off < windowBase ∧ off ≠ 0x008 ∧ off ≠ 0x010 ∧ off ≠ 0x018 ∧ off ≠ 0x028 := by
  cases x with
  | read off width =>
    simp only [Access.held, Access.proper, Access.width, Access.off, Bool.not_eq_false', Bool.and_eq_true, beq_iff_eq,
      decide_eq_true_eq] at h
    obtain ⟨⟨rfl, h2⟩, h3⟩ := h
    exact .inl ⟨off, rfl, h2, h3⟩
  | write off width v =>
    simp only [Access.held, Access.proper, Access.width, Access.off, Bool.or_eq_false_iff, Bool.not_eq_false', Bool.and_eq_true,
      beq_iff_eq, decide_eq_true_eq, List.contains_eq_mem, decide_eq_false_iff_not, List.mem_cons, List.not_mem_nil, or_false,
      not_or] at h
    obtain ⟨⟨⟨rfl, h2⟩, h3⟩, h4, h5, h6, h7⟩ := h
    exact .inr ⟨off, v, rfl, h2, h3, h4, h5, h6, h7⟩

/-- The offset of an address that the block sees: inside the block, and BASE away from the address. -/
theorem blockOffset_some (addr off : Nat) (h : blockOffset addr = some off) :
    off < Config.blockSize ∧ addr = Config.base + off := by
  unfold blockOffset at h
  split at h
  · cases h
    omega
  · cases h

/-- Every access of a host access that reaches the block is a part of it whose address is in the block, at its offset. -/
theorem mem_beats (addr width : Nat) (mk : Nat → Nat → Nat → Access) (x : Access) (h : x ∈ beats addr width mk) :
    ∃ p ∈ busParts addr width, ∃ off < Config.blockSize, p.1 = Config.base + off ∧ x = mk off p.2.1 p.2.2 := by
  obtain ⟨p, hp, hx⟩ := List.mem_filterMap.mp h
  obtain ⟨off, ho, rfl⟩ := Option.map_eq_some_iff.mp hx
  obtain ⟨h1, h2⟩ := blockOffset_some _ _ ho
  exact ⟨p, hp, off, h1, h2, rfl⟩

/-- Every access inside the block is performed in one of four ways. -/
theorem performAccess_cases (x : Access) (s : State) (h : x.off < Config.blockSize) :
    (∃ off, x = .read off 8 ∧ off % 8 = 0 ∧ performAccess x s = .next { s with rdata := s.busRead off }) ∨
    (∃ off v, x = .write off 8 v ∧ off % 8 = 0 ∧ performAccess x s = .next (s.busWrite off v)) ∨
    (∃ off width, x = .read off width ∧ x.proper = false ∧ performAccess x s = .next { s.accessError off with rdata := 0 }) ∨
    (∃ off width v, x = .write off width v ∧ x.proper = false ∧ performAccess x s = .next (s.accessError off)) := by
  unfold performAccess
  rw [if_neg (by omega)]
  cases x with
  | read off width =>
    by_cases hp : (Access.read off width).proper = true
    · left
      have hp' := hp
      simp only [Access.proper, Access.width, Access.off, Bool.and_eq_true, beq_iff_eq] at hp'
      obtain ⟨rfl, h2⟩ := hp'
      exact ⟨off, rfl, h2, by simp only [hp, if_true]⟩
    · right; right; left
      exact ⟨off, width, rfl, by simpa using hp, by simp only [hp]; rfl⟩
  | write off width v =>
    by_cases hp : (Access.write off width v).proper = true
    · right; left
      have hp' := hp
      simp only [Access.proper, Access.width, Access.off, Bool.and_eq_true, beq_iff_eq] at hp'
      obtain ⟨rfl, h2⟩ := hp'
      exact ⟨off, v, rfl, h2, by simp only [hp, if_true]⟩
    · right; right; right
      exact ⟨off, width, v, rfl, by simpa using hp, by simp only [hp]; rfl⟩

end Sys2Proof.Machine
end

