-- ==== Sys2Proof/Laws/PerInstr.lean ====
section
/-! SUPPORT. The fields of a command word, and for each command the statement that its word is a legal word of its row. -/

namespace Sys2Proof

set_option Elab.async false

/-- The fields of a word packed from fields. -/
theorem unpack_pack (f : Fields) : unpack (pack f) = f := by
  obtain ⟨high, imm, b, a, d, op⟩ := f
  simp only [unpack, pack, Fields.mk.injEq]
  refine ⟨?_, ?_, ?_, ?_, ?_, ?_⟩ <;>
  · apply BitVec.eq_of_getLsbD_eq
    intro i hi
    have : i < 24 := by omega
    simp only [BitVec.getLsbD_extractLsb', BitVec.getLsbD_append]
    interval_cases i <;> simp

/-- A word is its fields packed. -/
theorem pack_unpack (w : Word) : pack (unpack w) = w := by
  apply BitVec.eq_of_getLsbD_eq
  intro i hi
  simp only [unpack, pack, BitVec.getLsbD_append, BitVec.getLsbD_extractLsb']
  interval_cases i <;> simp

/-- The fields of a word that a command encodes to. -/
@[simp] theorem unpack_encodeWord (op : BitVec 8) (d a b : SlotNo) (imm : Imm) :
    unpack (encodeWord op d a b imm) = ⟨0, imm, b, a, d, op⟩ := unpack_pack _

namespace Laws

namespace OpcodeAndFields

/-- The word of a command has zero in bits [63:40], its OP has a row in the opcode table, every field that row leaves unused is
zero, and the row makes the command from the word's fields (30_encoding.md R90, R92, R94, R101). -/
def Statement (i : Instr) : Prop :=
  (unpack (encode i)).high = 0 ∧
    ∃ r, formOf (unpack (encode i)).op.toNat = some r ∧ unusedField r (unpack (encode i)) = none ∧ r.make (unpack (encode i)) = i

theorem nop : Statement (.nop) := by
  rw [Statement, encode, unpack_encodeWord]
  exact ⟨rfl, _, rfl, rfl, rfl⟩
theorem ldc (d : SlotNo) (imm : Imm) : Statement (.ldc d imm) := by
  rw [Statement, encode, unpack_encodeWord]
  exact ⟨rfl, _, rfl, rfl, rfl⟩
theorem mov (d a : SlotNo) (imm : Imm) : Statement (.mov d a imm) := by
  rw [Statement, encode, unpack_encodeWord]
  exact ⟨rfl, _, rfl, rfl, rfl⟩
theorem clr (d : SlotNo) (imm : Imm) : Statement (.clr d imm) := by
  rw [Statement, encode, unpack_encodeWord]
  exact ⟨rfl, _, rfl, rfl, rfl⟩
theorem fqAdd (d a b : SlotNo) : Statement (.fqAdd d a b) := by
  rw [Statement, encode, unpack_encodeWord]
  exact ⟨rfl, _, rfl, rfl, rfl⟩
theorem fqSub (d a b : SlotNo) : Statement (.fqSub d a b) := by
  rw [Statement, encode, unpack_encodeWord]
  exact ⟨rfl, _, rfl, rfl, rfl⟩
theorem fqNeg (d a : SlotNo) : Statement (.fqNeg d a) := by
  rw [Statement, encode, unpack_encodeWord]
  exact ⟨rfl, _, rfl, rfl, rfl⟩
theorem fqMul (d a b : SlotNo) : Statement (.fqMul d a b) := by
  rw [Statement, encode, unpack_encodeWord]
  exact ⟨rfl, _, rfl, rfl, rfl⟩
theorem fqSqr (d a : SlotNo) : Statement (.fqSqr d a) := by
  rw [Statement, encode, unpack_encodeWord]
  exact ⟨rfl, _, rfl, rfl, rfl⟩
theorem fqExp (d a b : SlotNo) (imm : Imm) : Statement (.fqExp d a b imm) := by
  rw [Statement, encode, unpack_encodeWord]
  exact ⟨rfl, _, rfl, rfl, rfl⟩
theorem fqInv (d a : SlotNo) : Statement (.fqInv d a) := by
  rw [Statement, encode, unpack_encodeWord]
  exact ⟨rfl, _, rfl, rfl, rfl⟩
theorem fqFromint (d a : SlotNo) : Statement (.fqFromint d a) := by
  rw [Statement, encode, unpack_encodeWord]
  exact ⟨rfl, _, rfl, rfl, rfl⟩
theorem fqToint (d a : SlotNo) : Statement (.fqToint d a) := by
  rw [Statement, encode, unpack_encodeWord]
  exact ⟨rfl, _, rfl, rfl, rfl⟩
theorem fqEq (a b : SlotNo) : Statement (.fqEq a b) := by
  rw [Statement, encode, unpack_encodeWord]
  exact ⟨rfl, _, rfl, rfl, rfl⟩
theorem fqRand (d : SlotNo) : Statement (.fqRand d) := by
  rw [Statement, encode, unpack_encodeWord]
  exact ⟨rfl, _, rfl, rfl, rfl⟩
theorem frAdd (d a b : SlotNo) : Statement (.frAdd d a b) := by
  rw [Statement, encode, unpack_encodeWord]
  exact ⟨rfl, _, rfl, rfl, rfl⟩
theorem frSub (d a b : SlotNo) : Statement (.frSub d a b) := by
  rw [Statement, encode, unpack_encodeWord]
  exact ⟨rfl, _, rfl, rfl, rfl⟩
theorem frNeg (d a : SlotNo) : Statement (.frNeg d a) := by
  rw [Statement, encode, unpack_encodeWord]
  exact ⟨rfl, _, rfl, rfl, rfl⟩
theorem frMul (d a b : SlotNo) : Statement (.frMul d a b) := by
  rw [Statement, encode, unpack_encodeWord]
  exact ⟨rfl, _, rfl, rfl, rfl⟩
theorem frSqr (d a : SlotNo) : Statement (.frSqr d a) := by
  rw [Statement, encode, unpack_encodeWord]
  exact ⟨rfl, _, rfl, rfl, rfl⟩
theorem frExp (d a b : SlotNo) (imm : Imm) : Statement (.frExp d a b imm) := by
  rw [Statement, encode, unpack_encodeWord]
  exact ⟨rfl, _, rfl, rfl, rfl⟩
theorem frInv (d a : SlotNo) : Statement (.frInv d a) := by
  rw [Statement, encode, unpack_encodeWord]
  exact ⟨rfl, _, rfl, rfl, rfl⟩
theorem frFromint (d a : SlotNo) : Statement (.frFromint d a) := by
  rw [Statement, encode, unpack_encodeWord]
  exact ⟨rfl, _, rfl, rfl, rfl⟩
theorem frToint (d a : SlotNo) : Statement (.frToint d a) := by
  rw [Statement, encode, unpack_encodeWord]
  exact ⟨rfl, _, rfl, rfl, rfl⟩
theorem frEq (a b : SlotNo) : Statement (.frEq a b) := by
  rw [Statement, encode, unpack_encodeWord]
  exact ⟨rfl, _, rfl, rfl, rfl⟩
theorem frRand (d : SlotNo) : Statement (.frRand d) := by
  rw [Statement, encode, unpack_encodeWord]
  exact ⟨rfl, _, rfl, rfl, rfl⟩
theorem fq2Add (d a b : SlotNo) : Statement (.fq2Add d a b) := by
  rw [Statement, encode, unpack_encodeWord]
  exact ⟨rfl, _, rfl, rfl, rfl⟩
theorem fq2Sub (d a b : SlotNo) : Statement (.fq2Sub d a b) := by
  rw [Statement, encode, unpack_encodeWord]
  exact ⟨rfl, _, rfl, rfl, rfl⟩
theorem fq2Neg (d a : SlotNo) : Statement (.fq2Neg d a) := by
  rw [Statement, encode, unpack_encodeWord]
  exact ⟨rfl, _, rfl, rfl, rfl⟩
theorem fq2Mul (d a b : SlotNo) : Statement (.fq2Mul d a b) := by
  rw [Statement, encode, unpack_encodeWord]
  exact ⟨rfl, _, rfl, rfl, rfl⟩
theorem fq2Sqr (d a : SlotNo) : Statement (.fq2Sqr d a) := by
  rw [Statement, encode, unpack_encodeWord]
  exact ⟨rfl, _, rfl, rfl, rfl⟩
theorem fq2Inv (d a : SlotNo) : Statement (.fq2Inv d a) := by
  rw [Statement, encode, unpack_encodeWord]
  exact ⟨rfl, _, rfl, rfl, rfl⟩
theorem fq2Conj (d a : SlotNo) : Statement (.fq2Conj d a) := by
  rw [Statement, encode, unpack_encodeWord]
  exact ⟨rfl, _, rfl, rfl, rfl⟩
theorem fq2Mulxi (d a : SlotNo) : Statement (.fq2Mulxi d a) := by
  rw [Statement, encode, unpack_encodeWord]
  exact ⟨rfl, _, rfl, rfl, rfl⟩
theorem fq2Frob (d a : SlotNo) (imm : Imm) : Statement (.fq2Frob d a imm) := by
  rw [Statement, encode, unpack_encodeWord]
  exact ⟨rfl, _, rfl, rfl, rfl⟩
theorem fq2Eq (a b : SlotNo) : Statement (.fq2Eq a b) := by
  rw [Statement, encode, unpack_encodeWord]
  exact ⟨rfl, _, rfl, rfl, rfl⟩
theorem fq6Add (d a b : SlotNo) : Statement (.fq6Add d a b) := by
  rw [Statement, encode, unpack_encodeWord]
  exact ⟨rfl, _, rfl, rfl, rfl⟩
theorem fq6Sub (d a b : SlotNo) : Statement (.fq6Sub d a b) := by
  rw [Statement, encode, unpack_encodeWord]
  exact ⟨rfl, _, rfl, rfl, rfl⟩
theorem fq6Neg (d a : SlotNo) : Statement (.fq6Neg d a) := by
  rw [Statement, encode, unpack_encodeWord]
  exact ⟨rfl, _, rfl, rfl, rfl⟩
theorem fq6Mul (d a b : SlotNo) : Statement (.fq6Mul d a b) := by
  rw [Statement, encode, unpack_encodeWord]
  exact ⟨rfl, _, rfl, rfl, rfl⟩
theorem fq6Sqr (d a : SlotNo) : Statement (.fq6Sqr d a) := by
  rw [Statement, encode, unpack_encodeWord]
  exact ⟨rfl, _, rfl, rfl, rfl⟩
theorem fq6Inv (d a : SlotNo) : Statement (.fq6Inv d a) := by
  rw [Statement, encode, unpack_encodeWord]
  exact ⟨rfl, _, rfl, rfl, rfl⟩
theorem fq6Mulnr (d a : SlotNo) : Statement (.fq6Mulnr d a) := by
  rw [Statement, encode, unpack_encodeWord]
  exact ⟨rfl, _, rfl, rfl, rfl⟩
theorem fq6Spmul01 (d a b : SlotNo) : Statement (.fq6Spmul01 d a b) := by
  rw [Statement, encode, unpack_encodeWord]
  exact ⟨rfl, _, rfl, rfl, rfl⟩
theorem fq6Frob (d a : SlotNo) (imm : Imm) : Statement (.fq6Frob d a imm) := by
  rw [Statement, encode, unpack_encodeWord]
  exact ⟨rfl, _, rfl, rfl, rfl⟩
theorem fq6Eq (a b : SlotNo) : Statement (.fq6Eq a b) := by
  rw [Statement, encode, unpack_encodeWord]
  exact ⟨rfl, _, rfl, rfl, rfl⟩
theorem fq12Add (d a b : SlotNo) : Statement (.fq12Add d a b) := by
  rw [Statement, encode, unpack_encodeWord]
  exact ⟨rfl, _, rfl, rfl, rfl⟩
theorem fq12Sub (d a b : SlotNo) : Statement (.fq12Sub d a b) := by
  rw [Statement, encode, unpack_encodeWord]
  exact ⟨rfl, _, rfl, rfl, rfl⟩
theorem fq12Neg (d a : SlotNo) : Statement (.fq12Neg d a) := by
  rw [Statement, encode, unpack_encodeWord]
  exact ⟨rfl, _, rfl, rfl, rfl⟩
theorem fq12Mul (d a b : SlotNo) : Statement (.fq12Mul d a b) := by
  rw [Statement, encode, unpack_encodeWord]
  exact ⟨rfl, _, rfl, rfl, rfl⟩
theorem fq12Sqr (d a : SlotNo) : Statement (.fq12Sqr d a) := by
  rw [Statement, encode, unpack_encodeWord]
  exact ⟨rfl, _, rfl, rfl, rfl⟩
theorem fq12Inv (d a : SlotNo) : Statement (.fq12Inv d a) := by
  rw [Statement, encode, unpack_encodeWord]
  exact ⟨rfl, _, rfl, rfl, rfl⟩
theorem fq12Conj (d a : SlotNo) : Statement (.fq12Conj d a) := by
  rw [Statement, encode, unpack_encodeWord]
  exact ⟨rfl, _, rfl, rfl, rfl⟩
theorem fq12Spmul014 (d a b : SlotNo) : Statement (.fq12Spmul014 d a b) := by
  rw [Statement, encode, unpack_encodeWord]
  exact ⟨rfl, _, rfl, rfl, rfl⟩
theorem fq12Frob (d a : SlotNo) (imm : Imm) : Statement (.fq12Frob d a imm) := by
  rw [Statement, encode, unpack_encodeWord]
  exact ⟨rfl, _, rfl, rfl, rfl⟩
theorem fq12Eq (a b : SlotNo) : Statement (.fq12Eq a b) := by
  rw [Statement, encode, unpack_encodeWord]
  exact ⟨rfl, _, rfl, rfl, rfl⟩
theorem fq12Exp (d a b : SlotNo) (imm : Imm) : Statement (.fq12Exp d a b imm) := by
  rw [Statement, encode, unpack_encodeWord]
  exact ⟨rfl, _, rfl, rfl, rfl⟩
theorem g1Add (d a b : SlotNo) : Statement (.g1Add d a b) := by
  rw [Statement, encode, unpack_encodeWord]
  exact ⟨rfl, _, rfl, rfl, rfl⟩
theorem g1Dbl (d a : SlotNo) : Statement (.g1Dbl d a) := by
  rw [Statement, encode, unpack_encodeWord]
  exact ⟨rfl, _, rfl, rfl, rfl⟩
theorem g1Neg (d a : SlotNo) : Statement (.g1Neg d a) := by
  rw [Statement, encode, unpack_encodeWord]
  exact ⟨rfl, _, rfl, rfl, rfl⟩
theorem g1Smul (d a b : SlotNo) : Statement (.g1Smul d a b) := by
  rw [Statement, encode, unpack_encodeWord]
  exact ⟨rfl, _, rfl, rfl, rfl⟩
theorem g1Smulglv (d a b : SlotNo) : Statement (.g1Smulglv d a b) := by
  rw [Statement, encode, unpack_encodeWord]
  exact ⟨rfl, _, rfl, rfl, rfl⟩
theorem g1Toaff (d a : SlotNo) : Statement (.g1Toaff d a) := by
  rw [Statement, encode, unpack_encodeWord]
  exact ⟨rfl, _, rfl, rfl, rfl⟩
theorem g1Eq (a b : SlotNo) : Statement (.g1Eq a b) := by
  rw [Statement, encode, unpack_encodeWord]
  exact ⟨rfl, _, rfl, rfl, rfl⟩
theorem g1Endo (d a : SlotNo) : Statement (.g1Endo d a) := by
  rw [Statement, encode, unpack_encodeWord]
  exact ⟨rfl, _, rfl, rfl, rfl⟩
theorem g1Fromaff (d a : SlotNo) : Statement (.g1Fromaff d a) := by
  rw [Statement, encode, unpack_encodeWord]
  exact ⟨rfl, _, rfl, rfl, rfl⟩
theorem g1Ident (d : SlotNo) : Statement (.g1Ident d) := by
  rw [Statement, encode, unpack_encodeWord]
  exact ⟨rfl, _, rfl, rfl, rfl⟩
theorem g2Add (d a b : SlotNo) : Statement (.g2Add d a b) := by
  rw [Statement, encode, unpack_encodeWord]
  exact ⟨rfl, _, rfl, rfl, rfl⟩
theorem g2Dbl (d a : SlotNo) : Statement (.g2Dbl d a) := by
  rw [Statement, encode, unpack_encodeWord]
  exact ⟨rfl, _, rfl, rfl, rfl⟩
theorem g2Neg (d a : SlotNo) : Statement (.g2Neg d a) := by
  rw [Statement, encode, unpack_encodeWord]
  exact ⟨rfl, _, rfl, rfl, rfl⟩
theorem g2Smul (d a b : SlotNo) : Statement (.g2Smul d a b) := by
  rw [Statement, encode, unpack_encodeWord]
  exact ⟨rfl, _, rfl, rfl, rfl⟩
theorem g2Smulgls (d a b : SlotNo) : Statement (.g2Smulgls d a b) := by
  rw [Statement, encode, unpack_encodeWord]
  exact ⟨rfl, _, rfl, rfl, rfl⟩
theorem g2Toaff (d a : SlotNo) : Statement (.g2Toaff d a) := by
  rw [Statement, encode, unpack_encodeWord]
  exact ⟨rfl, _, rfl, rfl, rfl⟩
theorem g2Eq (a b : SlotNo) : Statement (.g2Eq a b) := by
  rw [Statement, encode, unpack_encodeWord]
  exact ⟨rfl, _, rfl, rfl, rfl⟩
theorem g2Psi (d a : SlotNo) : Statement (.g2Psi d a) := by
  rw [Statement, encode, unpack_encodeWord]
  exact ⟨rfl, _, rfl, rfl, rfl⟩
theorem g2Fromaff (d a : SlotNo) : Statement (.g2Fromaff d a) := by
  rw [Statement, encode, unpack_encodeWord]
  exact ⟨rfl, _, rfl, rfl, rfl⟩
theorem g2Ident (d : SlotNo) : Statement (.g2Ident d) := by
  rw [Statement, encode, unpack_encodeWord]
  exact ⟨rfl, _, rfl, rfl, rfl⟩
theorem linedbl (d a b : SlotNo) : Statement (.linedbl d a b) := by
  rw [Statement, encode, unpack_encodeWord]
  exact ⟨rfl, _, rfl, rfl, rfl⟩
theorem lineadd (d a b : SlotNo) : Statement (.lineadd d a b) := by
  rw [Statement, encode, unpack_encodeWord]
  exact ⟨rfl, _, rfl, rfl, rfl⟩
theorem miller (d a b : SlotNo) : Statement (.miller d a b) := by
  rw [Statement, encode, unpack_encodeWord]
  exact ⟨rfl, _, rfl, rfl, rfl⟩
theorem finexp (d a : SlotNo) : Statement (.finexp d a) := by
  rw [Statement, encode, unpack_encodeWord]
  exact ⟨rfl, _, rfl, rfl, rfl⟩
theorem pair (d a b : SlotNo) : Statement (.pair d a b) := by
  rw [Statement, encode, unpack_encodeWord]
  exact ⟨rfl, _, rfl, rfl, rfl⟩
theorem latDecomp1 (d a : SlotNo) : Statement (.latDecomp1 d a) := by
  rw [Statement, encode, unpack_encodeWord]
  exact ⟨rfl, _, rfl, rfl, rfl⟩
theorem latDecomp2 (d a : SlotNo) : Statement (.latDecomp2 d a) := by
  rw [Statement, encode, unpack_encodeWord]
  exact ⟨rfl, _, rfl, rfl, rfl⟩

end OpcodeAndFields

end Laws

end Sys2Proof
end

