-- ==== Sys2Proof/Tests/Slice0.lean ====
section
/-! SUPPORT. Tests: the checks of WellFormed, the decoding of a written-out word for every command, and the spec's own vectors
(95_test_vectors.md, 96_test_vectors_pairing.md) as single steps. The expected values are the spec's. -/

namespace Sys2Proof.Tests

open Sys2Proof.Machine

set_option Elab.async false

/-! ### WellFormed -/

theorem test_ldc_index_14_is_ill_formed : Instr.wellFormed (.ldc 5 14) = false := by decide
theorem test_ldc_index_13_is_well_formed : Instr.wellFormed (.ldc 5 13) = true := by decide
theorem test_slots_past_the_end_are_refused : Instr.slotsOk (.fq6Add 251 0 0) = false := by decide
theorem test_slots_up_to_the_end_are_accepted : Instr.slotsOk (.fq6Add 250 0 0) = true := by decide
theorem test_second_operand_past_the_end_is_refused : Instr.slotsOk (.fq12Add 0 245 0) = false := by decide
theorem test_empty_exponent_is_not_checked : Instr.slotsOk (.fqExp 1 0 255 0) = true := by decide
theorem test_exponent_of_seven_limbs_takes_two_slots : Instr.slotsOk (.fqExp 1 0 255 7) = false := by decide
theorem test_run_past_the_end_is_refused : Instr.slotsOk (.clr 200 56) = false := by decide
theorem test_constant_past_the_end_is_refused : Instr.slotsOk (.ldc 250 4) = false := by decide

/-! ### Decoding: D = 0x11, A = 0x22, B = 0x33 and IMM = 0x44 (0x0D for LDC) at their bits, OP of 30_encoding.md R101 -/

theorem test_decode_nop : decode 0x0000000000000000 = .ok (.nop) := rfl
theorem test_decode_ldc : decode 0x0000000D00001101 = .ok (.ldc 0x11 0x0D) := rfl
theorem test_decode_mov : decode 0x0000004400221102 = .ok (.mov 0x11 0x22 0x44) := rfl
theorem test_decode_clr : decode 0x0000004400001103 = .ok (.clr 0x11 0x44) := rfl
theorem test_decode_fqAdd : decode 0x0000000033221110 = .ok (.fqAdd 0x11 0x22 0x33) := rfl
theorem test_decode_fqSub : decode 0x0000000033221111 = .ok (.fqSub 0x11 0x22 0x33) := rfl
theorem test_decode_fqNeg : decode 0x0000000000221112 = .ok (.fqNeg 0x11 0x22) := rfl
theorem test_decode_fqMul : decode 0x0000000033221113 = .ok (.fqMul 0x11 0x22 0x33) := rfl
theorem test_decode_fqSqr : decode 0x0000000000221114 = .ok (.fqSqr 0x11 0x22) := rfl
theorem test_decode_fqExp : decode 0x0000004433221115 = .ok (.fqExp 0x11 0x22 0x33 0x44) := rfl
theorem test_decode_fqInv : decode 0x0000000000221116 = .ok (.fqInv 0x11 0x22) := rfl
theorem test_decode_fqFromint : decode 0x0000000000221117 = .ok (.fqFromint 0x11 0x22) := rfl
theorem test_decode_fqToint : decode 0x0000000000221118 = .ok (.fqToint 0x11 0x22) := rfl
theorem test_decode_fqEq : decode 0x0000000033220019 = .ok (.fqEq 0x22 0x33) := rfl
theorem test_decode_fqRand : decode 0x000000000000111A = .ok (.fqRand 0x11) := rfl
theorem test_decode_frAdd : decode 0x0000000033221120 = .ok (.frAdd 0x11 0x22 0x33) := rfl
theorem test_decode_frSub : decode 0x0000000033221121 = .ok (.frSub 0x11 0x22 0x33) := rfl
theorem test_decode_frNeg : decode 0x0000000000221122 = .ok (.frNeg 0x11 0x22) := rfl
theorem test_decode_frMul : decode 0x0000000033221123 = .ok (.frMul 0x11 0x22 0x33) := rfl
theorem test_decode_frSqr : decode 0x0000000000221124 = .ok (.frSqr 0x11 0x22) := rfl
theorem test_decode_frExp : decode 0x0000004433221125 = .ok (.frExp 0x11 0x22 0x33 0x44) := rfl
theorem test_decode_frInv : decode 0x0000000000221126 = .ok (.frInv 0x11 0x22) := rfl
theorem test_decode_frFromint : decode 0x0000000000221127 = .ok (.frFromint 0x11 0x22) := rfl
theorem test_decode_frToint : decode 0x0000000000221128 = .ok (.frToint 0x11 0x22) := rfl
theorem test_decode_frEq : decode 0x0000000033220029 = .ok (.frEq 0x22 0x33) := rfl
theorem test_decode_frRand : decode 0x000000000000112A = .ok (.frRand 0x11) := rfl
theorem test_decode_fq2Add : decode 0x0000000033221130 = .ok (.fq2Add 0x11 0x22 0x33) := rfl
theorem test_decode_fq2Sub : decode 0x0000000033221131 = .ok (.fq2Sub 0x11 0x22 0x33) := rfl
theorem test_decode_fq2Neg : decode 0x0000000000221132 = .ok (.fq2Neg 0x11 0x22) := rfl
theorem test_decode_fq2Mul : decode 0x0000000033221133 = .ok (.fq2Mul 0x11 0x22 0x33) := rfl
theorem test_decode_fq2Sqr : decode 0x0000000000221134 = .ok (.fq2Sqr 0x11 0x22) := rfl
theorem test_decode_fq2Inv : decode 0x0000000000221135 = .ok (.fq2Inv 0x11 0x22) := rfl
theorem test_decode_fq2Conj : decode 0x0000000000221136 = .ok (.fq2Conj 0x11 0x22) := rfl
theorem test_decode_fq2Mulxi : decode 0x0000000000221137 = .ok (.fq2Mulxi 0x11 0x22) := rfl
theorem test_decode_fq2Frob : decode 0x0000004400221138 = .ok (.fq2Frob 0x11 0x22 0x44) := rfl
theorem test_decode_fq2Eq : decode 0x0000000033220039 = .ok (.fq2Eq 0x22 0x33) := rfl
theorem test_decode_fq6Add : decode 0x0000000033221140 = .ok (.fq6Add 0x11 0x22 0x33) := rfl
theorem test_decode_fq6Sub : decode 0x0000000033221141 = .ok (.fq6Sub 0x11 0x22 0x33) := rfl
theorem test_decode_fq6Neg : decode 0x0000000000221142 = .ok (.fq6Neg 0x11 0x22) := rfl
theorem test_decode_fq6Mul : decode 0x0000000033221143 = .ok (.fq6Mul 0x11 0x22 0x33) := rfl
theorem test_decode_fq6Sqr : decode 0x0000000000221144 = .ok (.fq6Sqr 0x11 0x22) := rfl
theorem test_decode_fq6Inv : decode 0x0000000000221145 = .ok (.fq6Inv 0x11 0x22) := rfl
theorem test_decode_fq6Mulnr : decode 0x0000000000221146 = .ok (.fq6Mulnr 0x11 0x22) := rfl
theorem test_decode_fq6Spmul01 : decode 0x0000000033221147 = .ok (.fq6Spmul01 0x11 0x22 0x33) := rfl
theorem test_decode_fq6Frob : decode 0x0000004400221148 = .ok (.fq6Frob 0x11 0x22 0x44) := rfl
theorem test_decode_fq6Eq : decode 0x0000000033220049 = .ok (.fq6Eq 0x22 0x33) := rfl
theorem test_decode_fq12Add : decode 0x0000000033221150 = .ok (.fq12Add 0x11 0x22 0x33) := rfl
theorem test_decode_fq12Sub : decode 0x0000000033221151 = .ok (.fq12Sub 0x11 0x22 0x33) := rfl
theorem test_decode_fq12Neg : decode 0x0000000000221152 = .ok (.fq12Neg 0x11 0x22) := rfl
theorem test_decode_fq12Mul : decode 0x0000000033221153 = .ok (.fq12Mul 0x11 0x22 0x33) := rfl
theorem test_decode_fq12Sqr : decode 0x0000000000221154 = .ok (.fq12Sqr 0x11 0x22) := rfl
theorem test_decode_fq12Inv : decode 0x0000000000221155 = .ok (.fq12Inv 0x11 0x22) := rfl
theorem test_decode_fq12Conj : decode 0x0000000000221156 = .ok (.fq12Conj 0x11 0x22) := rfl
theorem test_decode_fq12Spmul014 : decode 0x0000000033221157 = .ok (.fq12Spmul014 0x11 0x22 0x33) := rfl
theorem test_decode_fq12Frob : decode 0x0000004400221158 = .ok (.fq12Frob 0x11 0x22 0x44) := rfl
theorem test_decode_fq12Eq : decode 0x0000000033220059 = .ok (.fq12Eq 0x22 0x33) := rfl
theorem test_decode_fq12Exp : decode 0x000000443322115A = .ok (.fq12Exp 0x11 0x22 0x33 0x44) := rfl
theorem test_decode_g1Add : decode 0x0000000033221160 = .ok (.g1Add 0x11 0x22 0x33) := rfl
theorem test_decode_g1Dbl : decode 0x0000000000221161 = .ok (.g1Dbl 0x11 0x22) := rfl
theorem test_decode_g1Neg : decode 0x0000000000221162 = .ok (.g1Neg 0x11 0x22) := rfl
theorem test_decode_g1Smul : decode 0x0000000033221163 = .ok (.g1Smul 0x11 0x22 0x33) := rfl
theorem test_decode_g1Smulglv : decode 0x0000000033221164 = .ok (.g1Smulglv 0x11 0x22 0x33) := rfl
theorem test_decode_g1Toaff : decode 0x0000000000221165 = .ok (.g1Toaff 0x11 0x22) := rfl
theorem test_decode_g1Eq : decode 0x0000000033220066 = .ok (.g1Eq 0x22 0x33) := rfl
theorem test_decode_g1Endo : decode 0x0000000000221167 = .ok (.g1Endo 0x11 0x22) := rfl
theorem test_decode_g1Fromaff : decode 0x0000000000221168 = .ok (.g1Fromaff 0x11 0x22) := rfl
theorem test_decode_g1Ident : decode 0x0000000000001169 = .ok (.g1Ident 0x11) := rfl
theorem test_decode_g2Add : decode 0x0000000033221170 = .ok (.g2Add 0x11 0x22 0x33) := rfl
theorem test_decode_g2Dbl : decode 0x0000000000221171 = .ok (.g2Dbl 0x11 0x22) := rfl
theorem test_decode_g2Neg : decode 0x0000000000221172 = .ok (.g2Neg 0x11 0x22) := rfl
theorem test_decode_g2Smul : decode 0x0000000033221173 = .ok (.g2Smul 0x11 0x22 0x33) := rfl
theorem test_decode_g2Smulgls : decode 0x0000000033221174 = .ok (.g2Smulgls 0x11 0x22 0x33) := rfl
theorem test_decode_g2Toaff : decode 0x0000000000221175 = .ok (.g2Toaff 0x11 0x22) := rfl
theorem test_decode_g2Eq : decode 0x0000000033220076 = .ok (.g2Eq 0x22 0x33) := rfl
theorem test_decode_g2Psi : decode 0x0000000000221177 = .ok (.g2Psi 0x11 0x22) := rfl
theorem test_decode_g2Fromaff : decode 0x0000000000221178 = .ok (.g2Fromaff 0x11 0x22) := rfl
theorem test_decode_g2Ident : decode 0x0000000000001179 = .ok (.g2Ident 0x11) := rfl
theorem test_decode_linedbl : decode 0x0000000033221180 = .ok (.linedbl 0x11 0x22 0x33) := rfl
theorem test_decode_lineadd : decode 0x0000000033221181 = .ok (.lineadd 0x11 0x22 0x33) := rfl
theorem test_decode_miller : decode 0x0000000033221182 = .ok (.miller 0x11 0x22 0x33) := rfl
theorem test_decode_finexp : decode 0x0000000000221183 = .ok (.finexp 0x11 0x22) := rfl
theorem test_decode_pair : decode 0x0000000033221184 = .ok (.pair 0x11 0x22 0x33) := rfl
theorem test_decode_latDecomp1 : decode 0x0000000000221190 = .ok (.latDecomp1 0x11 0x22) := rfl
theorem test_decode_latDecomp2 : decode 0x0000000000221191 = .ok (.latDecomp2 0x11 0x22) := rfl

theorem test_high_bits_are_refused : decode 0x0000010000000000 = .error .highBits := rfl
theorem test_reserved_opcode_is_refused : decode 0x000000000000007A = .error .reservedOpcode := rfl
theorem test_unused_field_is_refused : decode 0x0000000005000112 = .error (.unusedField .b) := rfl
theorem test_ldc_index_is_refused : decode 0x0000000E00000501 = .error .ldcIndex := rfl
theorem test_table_word : decodeTableWord 64 0x0000000003020413 = some (.fqMul 4 2 3) := rfl

/-! ### The spec's vectors, one step each -/

/-- A state after reset with the given slots and entropy words. -/
def load (slots : List (Nat × SlotWord)) (entropy : List Word) : State :=
  { slots.foldl (fun s p => s.setSlot p.1 p.2) State.reset with entropy := entropy }

/-- The step that runs a command word on such a state. -/
def ran (slots : List (Nat × SlotWord)) (entropy : List Word) (w : Nat) : Outcome := step ((load slots entropy).withFetchWord 64 w)

/-- The outcome is a next state with these slots, this STATUS, this ERRINFO and this ENTLEVEL. -/
def shows (o : Outcome) (slots : List (Nat × Nat)) (status errinfo level : Nat) : Bool :=
  match o with
  | .next t => slots.all (fun p => (t.slot p.1).toNat == p.2) && t.statusWord.toNat == status && t.errinfo.toNat == errinfo &&
      t.entropy.length == level
  | _ => false

theorem test_nop_v_ct_1 : shows (ran [] [] 0x0000000000000000)
    [] 2 0 0 = true := by
  decide +kernel
theorem test_ldc_v_ct_3 : shows (ran [] [] 0x0000000000000801)
    [(8, 0x15f65ec3fa80e4935c071a97a256ec6d77ce5853705257455f48985753c758baebf4000bc40c0002760900000002fffd)] 2 0 0 = true := by
  decide +kernel
theorem test_ldc_v_ct_12 : shows (ran [] [] 0x000000040000FA01)
    [] 0x204 0x40000fa01 0 = true := by
  decide +kernel
theorem test_mov_v_ct_13 : shows (ran [(0, 1), (1, 2), (2, 3)] [] 0x0000000200000102)
    [(1, 1), (2, 2), (3, 3)] 2 0 0 = true := by
  decide +kernel
theorem test_mov_v_ct_14 : shows (ran [(0, 0xffffffffffffffffffffffffffffffffffffffffffffffffffffffffffffffffffffffffffffffffffffffffffffffff)] [] 0x0000000000000102)
    [(1, 0xffffffffffffffffffffffffffffffffffffffffffffffffffffffffffffffffffffffffffffffffffffffffffffffff)] 2 0 0 = true := by
  decide +kernel
theorem test_clr_v_ct_15 : shows (ran [(0, 5), (255, 7)] [] 0x000000FF00000003)
    [(0, 0), (255, 0)] 2 0 0 = true := by
  decide +kernel
theorem test_clr_v_ct_16 : shows (ran [] [] 0x000000380000C803)
    [] 0x204 0x380000c803 0 = true := by
  decide +kernel
theorem test_fqAdd_v_fq_1 : shows (ran [(0, 0x40ab3263eff0206ef148d1ea0f4c069eca8f3318332bb7a07e83a49a2e99d6932b7fff2ed47fffd43f5fffffffcaaae), (1, 0x15f65ec3fa80e4935c071a97a256ec6d77ce5853705257455f48985753c758baebf4000bc40c0002760900000002fffd)] [] 0x0000000001000210)
    [(2, 0)] 2 0 0 = true := by
  decide +kernel
theorem test_fqAdd_v_fq_2 : shows (ran [(0, 0x11ebab9dbb81e28c6cf28d7901622c038b256521ed1f9bcb57605e0db0ddbb51b93c0018d6c40005321300000006554f), (1, 0xde0f8777c82e0857dde005a606d6b999e7c71f069ece0514f7823c40df41de886840025e97c0007ee1d00000009aaa1)] [] 0x0000000001000210)
    [(2, 0x5cb922afe84dc779fb4e61d1e83eac5c52a8b8d6387695d3fa7af30c820e316211400400eec000d6631000000105545)] 2 0 0 = true := by
  decide +kernel
theorem test_fqSub_v_fq_3 : shows (ran [(0, 0), (1, 0x15f65ec3fa80e4935c071a97a256ec6d77ce5853705257455f48985753c758baebf4000bc40c0002760900000002fffd)] [] 0x0000000001000211)
    [(2, 0x40ab3263eff0206ef148d1ea0f4c069eca8f3318332bb7a07e83a49a2e99d6932b7fff2ed47fffd43f5fffffffcaaae)] 2 0 0 = true := by
  decide +kernel
theorem test_fqNeg_v_fq_4 : shows (ran [(0, 0)] [] 0x0000000000000112)
    [(1, 0)] 2 0 0 = true := by
  decide +kernel
theorem test_fqNeg_v_fq_5 : shows (ran [(0, 0x15f65ec3fa80e4935c071a97a256ec6d77ce5853705257455f48985753c758baebf4000bc40c0002760900000002fffd)] [] 0x0000000000000112)
    [(1, 0x40ab3263eff0206ef148d1ea0f4c069eca8f3318332bb7a07e83a49a2e99d6932b7fff2ed47fffd43f5fffffffcaaae)] 2 0 0 = true := by
  decide +kernel
theorem test_fqMul_v_fq_6 : shows (ran [(2, 0x11ebab9dbb81e28c6cf28d7901622c038b256521ed1f9bcb57605e0db0ddbb51b93c0018d6c40005321300000006554f), (3, 0xde0f8777c82e0857dde005a606d6b999e7c71f069ece0514f7823c40df41de886840025e97c0007ee1d00000009aaa1)] [] 0x0000000003020413)
    [(4, 0x1c0df04bf85da70b0a058fe7d8f2a5bd881985be054ade337bf74e7253745acee5c004d21a40010223b00000013aa97)] 2 0 0 = true := by
  decide +kernel
theorem test_fqMul_v_fq_7 : shows (ran [(0, 0x40ab3263eff0206ef148d1ea0f4c069eca8f3318332bb7a07e83a49a2e99d6932b7fff2ed47fffd43f5fffffffcaaae)] [] 0x0000000000000013)
    [(0, 0x15f65ec3fa80e4935c071a97a256ec6d77ce5853705257455f48985753c758baebf4000bc40c0002760900000002fffd)] 2 0 0 = true := by
  decide +kernel
theorem test_fqSqr_v_fq_8 : shows (ran [(0, 0x815664c7dfe040dde291a3d41e980d3d951e663066576f40fd0749345d33ad2656fffe5da8ffffa87ebfffffff9555c)] [] 0x0000000000000114)
    [(1, 0x9d645513d83de7e8ec9733bbf78ab2fb1d37ebee6ba24d7478fe97a6b0a807f53cc0032fc34000aaa270000000cfff3)] 2 0 0 = true := by
  decide +kernel
theorem test_fqExp_v_fq_9 : shows (ran [(0, 0), (2, 0)] [] 0x0000000002000115)
    [(1, 0x15f65ec3fa80e4935c071a97a256ec6d77ce5853705257455f48985753c758baebf4000bc40c0002760900000002fffd)] 2 0 0 = true := by
  decide +kernel
theorem test_fqExp_v_fq_10 : shows (ran [(0, 0x11ebab9dbb81e28c6cf28d7901622c038b256521ed1f9bcb57605e0db0ddbb51b93c0018d6c40005321300000006554f), (2, 0xa)] [] 0x0000000102000115)
    [(1, 0x15de9967f3e804b29f1457663c4a5eec26c26d0b683dcf80dd9a7e0e882431c84b803379b4800ac4676000000d1ff2e0)] 2 0 0 = true := by
  decide +kernel
theorem test_fqInv_v_fq_13 : shows (ran [(0, 0x11ebab9dbb81e28c6cf28d7901622c038b256521ed1f9bcb57605e0db0ddbb51b93c0018d6c40005321300000006554f)] [] 0x0000000000000116)
    [(1, 0x17fbb8571a006596d3916126f2d14ca26e22d1ec31ebb502633cb57c253c276f855000053ab000011804000000015554)] 2 0 0 = true := by
  decide +kernel
theorem test_fqInv_v_fq_14 : shows (ran [(0, 0)] [] 0x0000000000000116)
    [] 0x604 0x116 0 = true := by
  decide +kernel
theorem test_fqFromint_v_fq_15 : shows (ran [(0, 0x1a0111ea397fe69a4b1ba7b6434bacd764774b84f38512bf6730d2a0f6b0f6241eabfffeb153ffffb9feffffffffaaaa)] [] 0x0000000000000117)
    [(1, 0x40ab3263eff0206ef148d1ea0f4c069eca8f3318332bb7a07e83a49a2e99d6932b7fff2ed47fffd43f5fffffffcaaae)] 2 0 0 = true := by
  decide +kernel
theorem test_fqFromint_v_fq_16 : shows (ran [(0, 0x1a0111ea397fe69a4b1ba7b6434bacd764774b84f38512bf6730d2a0f6b0f6241eabfffeb153ffffb9feffffffffaaab)] [] 0x0000000000000117)
    [] 0x504 0x117 0 = true := by
  decide +kernel
theorem test_fqToint_v_fq_17 : shows (ran [(0, 0x1c0df04bf85da70b0a058fe7d8f2a5bd881985be054ade337bf74e7253745acee5c004d21a40010223b00000013aa97)] [] 0x0000000000000118)
    [(1, 6)] 2 0 0 = true := by
  decide +kernel
theorem test_fqToint_v_fq_18 : shows (ran [(0, 0x1a0111ea397fe69a4b1ba7b6434bacd764774b84f38512bf6730d2a0f6b0f6241eabfffeb153ffffb9feffffffffaaab)] [] 0x0000000000000118)
    [] 0x304 0x118 0 = true := by
  decide +kernel
theorem test_fqEq_v_fq_19 : shows (ran [(0, 0x5cb922afe84dc779fb4e61d1e83eac5c52a8b8d6387695d3fa7af30c820e316211400400eec000d6631000000105545), (1, 0x5cb922afe84dc779fb4e61d1e83eac5c52a8b8d6387695d3fa7af30c820e316211400400eec000d6631000000105545)] [] 0x0000000001000019)
    [] 0xa 0 0 = true := by
  decide +kernel
theorem test_fqEq_v_fq_20 : shows (ran [(0, 0x5cb922afe84dc779fb4e61d1e83eac5c52a8b8d6387695d3fa7af30c820e316211400400eec000d6631000000105545), (1, 0x1c0df04bf85da70b0a058fe7d8f2a5bd881985be054ade337bf74e7253745acee5c004d21a40010223b00000013aa97)] [] 0x0000000001000019)
    [] 2 0 0 = true := by
  decide +kernel
theorem test_fqRand_v_fq_22 : shows (ran [] [0, 0, 0, 0, 0, 0, 5, 0, 0, 0, 0, 0] 0x000000000000001A)
    [(0, 0x5cb922afe84dc779fb4e61d1e83eac5c52a8b8d6387695d3fa7af30c820e316211400400eec000d6631000000105545)] 2 0 0 = true := by
  decide +kernel
theorem test_fqRand_v_fq_24 : shows (ran [] [0, 0, 0, 0, 0, 0, 0, 0, 0] 0x000000000000001A)
    [] 0x804 0x1a 3 = true := by
  decide +kernel
theorem test_frAdd_v_fr_1 : shows (ran [(0, 0x5bc8f5f97cd877d899ad88181ce5880ffb38ec08fffb13fcfffffffd00000003), (1, 0x1824b159acc5056f998c4fefecbc4ff55884b7fa0003480200000001fffffffe)] [] 0x0000000001000220)
    [(2, 0)] 2 0 0 = true := by
  decide +kernel
theorem test_frSub_v_fr_2 : shows (ran [(0, 0), (1, 0x1824b159acc5056f998c4fefecbc4ff55884b7fa0003480200000001fffffffe)] [] 0x0000000001000221)
    [(2, 0x5bc8f5f97cd877d899ad88181ce5880ffb38ec08fffb13fcfffffffd00000003)] 2 0 0 = true := by
  decide +kernel
theorem test_frNeg_v_fr_3 : shows (ran [(0, 0x1824b159acc5056f998c4fefecbc4ff55884b7fa0003480200000001fffffffe)] [] 0x0000000000000122)
    [(1, 0x5bc8f5f97cd877d899ad88181ce5880ffb38ec08fffb13fcfffffffd00000003)] 2 0 0 = true := by
  decide +kernel
theorem test_frMul_v_fr_4 : shows (ran [(0, 0x304962b3598a0adf33189fdfd9789feab1096ff40006900400000003fffffffc), (1, 0x486e140d064f104ecca4efcfc634efe0098e27ee0009d80600000005fffffffa)] [] 0x0000000001000223)
    [(2, 0x1cee80c6e300a3556610079782c807babf5eabd90015540d0000000cfffffff3)] 2 0 0 = true := by
  decide +kernel
theorem test_frSqr_v_fr_5 : shows (ran [(0, 0x5bc8f5f97cd877d899ad88181ce5880ffb38ec08fffb13fcfffffffd00000003)] [] 0x0000000000000124)
    [(1, 0x1824b159acc5056f998c4fefecbc4ff55884b7fa0003480200000001fffffffe)] 2 0 0 = true := by
  decide +kernel
theorem test_frExp_v_fr_6 : shows (ran [(0, 0x4c9cf6d363b9de5cc83b7a7960bb7c566d9f3df00120c0b0000000afffffff5), (2, 3)] [] 0x0000000102000125)
    [(1, 0x3c79a572234ee28c5a317559d831a41b78b2cc401c4d11400000113fffffeec)] 2 0 0 = true := by
  decide +kernel
theorem test_frInv_v_fr_7 : shows (ran [(0, 0x304962b3598a0adf33189fdfd9789feab1096ff40006900400000003fffffffc)] [] 0x0000000000000126)
    [(1, 0xc1258acd66282b7ccc627f7f65e27faac425bfd0001a40100000000ffffffff)] 2 0 0 = true := by
  decide +kernel
theorem test_frInv_v_fr_8 : shows (ran [(0, 0)] [] 0x0000000000000126)
    [] 0x604 0x126 0 = true := by
  decide +kernel
theorem test_frFromint_v_fr_9 : shows (ran [(0, 0x73eda753299d7d483339d80809a1d80553bda402fffe5bfeffffffff00000000)] [] 0x0000000000000127)
    [(1, 0x5bc8f5f97cd877d899ad88181ce5880ffb38ec08fffb13fcfffffffd00000003)] 2 0 0 = true := by
  decide +kernel
theorem test_frFromint_v_fr_10 : shows (ran [(0, 0x73eda753299d7d483339d80809a1d80553bda402fffe5bfeffffffff00000001)] [] 0x0000000000000127)
    [] 0x504 0x127 0 = true := by
  decide +kernel
theorem test_frToint_v_fr_11 : shows (ran [(0, 0x4c9cf6d363b9de5cc83b7a7960bb7c566d9f3df00120c0b0000000afffffff5)] [] 0x0000000000000128)
    [(1, 5)] 2 0 0 = true := by
  decide +kernel
theorem test_frToint_v_fr_12 : shows (ran [(0, 0x104c9cf6d363b9de5cc83b7a7960bb7c566d9f3df00120c0b0000000afffffff5)] [] 0x0000000000000128)
    [] 0x304 0x128 0 = true := by
  decide +kernel
theorem test_frEq_v_fr_13 : shows (ran [(0, 0x351332208fc5a8c4ff9c57876f8457b017e363d300189c0f0000000efffffff1), (1, 0x351332208fc5a8c4ff9c57876f8457b017e363d300189c0f0000000efffffff1)] [] 0x0000000001000029)
    [] 0xa 0 0 = true := by
  decide +kernel
theorem test_frRand_v_fr_14 : shows (ran [] [0xffffffffffffffff, 0xffffffffffffffff, 0xffffffffffffffff, 0xffffffffffffffff, 7, 0, 0, 0] 0x000000000000002A)
    [(0, 0x351332208fc5a8c4ff9c57876f8457b017e363d300189c0f0000000efffffff1)] 2 0 0 = true := by
  decide +kernel
theorem test_fq2Add_v_tw_1 : shows (ran [(0, 0x15f65ec3fa80e4935c071a97a256ec6d77ce5853705257455f48985753c758baebf4000bc40c0002760900000002fffd), (1, 0x11ebab9dbb81e28c6cf28d7901622c038b256521ed1f9bcb57605e0db0ddbb51b93c0018d6c40005321300000006554f), (2, 0xde0f8777c82e0857dde005a606d6b999e7c71f069ece0514f7823c40df41de886840025e97c0007ee1d00000009aaa1), (3, 0x9d645513d83de7e8ec9733bbf78ab2fb1d37ebee6ba24d7478fe97a6b0a807f53cc0032fc34000aaa270000000cfff3)] [] 0x0000000002000430)
    [(4, 0x9d645513d83de7e8ec9733bbf78ab2fb1d37ebee6ba24d7478fe97a6b0a807f53cc0032fc34000aaa270000000cfff3), (5, 0x1c0df04bf85da70b0a058fe7d8f2a5bd881985be054ade337bf74e7253745acee5c004d21a40010223b00000013aa97)] 2 0 0 = true := by
  decide +kernel
theorem test_fq2Sub_v_tw_2 : shows (ran [(0, 0x15f65ec3fa80e4935c071a97a256ec6d77ce5853705257455f48985753c758baebf4000bc40c0002760900000002fffd), (1, 0x11ebab9dbb81e28c6cf28d7901622c038b256521ed1f9bcb57605e0db0ddbb51b93c0018d6c40005321300000006554f), (2, 0xde0f8777c82e0857dde005a606d6b999e7c71f069ece0514f7823c40df41de886840025e97c0007ee1d00000009aaa1), (3, 0x9d645513d83de7e8ec9733bbf78ab2fb1d37ebee6ba24d7478fe97a6b0a807f53cc0032fc34000aaa270000000cfff3)] [] 0x0000000002000431)
    [(4, 0x815664c7dfe040dde291a3d41e980d3d951e663066576f40fd0749345d33ad2656fffe5da8ffffa87ebfffffff9555c), (5, 0x815664c7dfe040dde291a3d41e980d3d951e663066576f40fd0749345d33ad2656fffe5da8ffffa87ebfffffff9555c)] 2 0 0 = true := by
  decide +kernel
theorem test_fq2Neg_v_tw_3 : shows (ran [(0, 0x15f65ec3fa80e4935c071a97a256ec6d77ce5853705257455f48985753c758baebf4000bc40c0002760900000002fffd), (1, 0x11ebab9dbb81e28c6cf28d7901622c038b256521ed1f9bcb57605e0db0ddbb51b93c0018d6c40005321300000006554f)] [] 0x0000000000000432)
    [(4, 0x40ab3263eff0206ef148d1ea0f4c069eca8f3318332bb7a07e83a49a2e99d6932b7fff2ed47fffd43f5fffffffcaaae), (5, 0x815664c7dfe040dde291a3d41e980d3d951e663066576f40fd0749345d33ad2656fffe5da8ffffa87ebfffffff9555c)] 2 0 0 = true := by
  decide +kernel
theorem test_fq2Mul_v_tw_4 : shows (ran [(0, 0x15f65ec3fa80e4935c071a97a256ec6d77ce5853705257455f48985753c758baebf4000bc40c0002760900000002fffd), (1, 0x11ebab9dbb81e28c6cf28d7901622c038b256521ed1f9bcb57605e0db0ddbb51b93c0018d6c40005321300000006554f), (2, 0xde0f8777c82e0857dde005a606d6b999e7c71f069ece0514f7823c40df41de886840025e97c0007ee1d00000009aaa1), (3, 0x9d645513d83de7e8ec9733bbf78ab2fb1d37ebee6ba24d7478fe97a6b0a807f53cc0032fc34000aaa270000000cfff3)] [] 0x0000000002000433)
    [(4, 0x14357fbf3afb0a22ab66c19924c7c2119f4cbff78ffda962278923702e90130dfd97ffbea267fff253cdffffffef5566), (5, 0xb972455fd09b8ef3f69cc3a3d07d58b8a55171ac70ed2ba7f4f5e619041c62c422800801dd8001acc6200000020aa8a)] 2 0 0 = true := by
  decide +kernel
theorem test_fq2Sqr_v_tw_5 : shows (ran [(0, 0), (1, 0x15f65ec3fa80e4935c071a97a256ec6d77ce5853705257455f48985753c758baebf4000bc40c0002760900000002fffd)] [] 0x0000000000000434)
    [(4, 0x40ab3263eff0206ef148d1ea0f4c069eca8f3318332bb7a07e83a49a2e99d6932b7fff2ed47fffd43f5fffffffcaaae), (5, 0)] 2 0 0 = true := by
  decide +kernel
theorem test_fq2Inv_v_tw_6 : shows (ran [(0, 0x15f65ec3fa80e4935c071a97a256ec6d77ce5853705257455f48985753c758baebf4000bc40c0002760900000002fffd), (1, 0x15f65ec3fa80e4935c071a97a256ec6d77ce5853705257455f48985753c758baebf4000bc40c0002760900000002fffd)] [] 0x0000000000000435)
    [(4, 0x17fbb8571a006596d3916126f2d14ca26e22d1ec31ebb502633cb57c253c276f855000053ab000011804000000015554), (5, 0x20559931f7f8103778a468f507a6034f6547998c1995dbd03f41d24d174ceb4995bfff976a3fffea1fafffffffe5557)] 2 0 0 = true := by
  decide +kernel
theorem test_fq2Inv_v_tw_7 : shows (ran [(0, 0), (1, 0)] [] 0x0000000000000435)
    [] 0x604 0x435 0 = true := by
  decide +kernel
theorem test_fq2Conj_v_tw_8 : shows (ran [(0, 0x15f65ec3fa80e4935c071a97a256ec6d77ce5853705257455f48985753c758baebf4000bc40c0002760900000002fffd), (1, 0x11ebab9dbb81e28c6cf28d7901622c038b256521ed1f9bcb57605e0db0ddbb51b93c0018d6c40005321300000006554f)] [] 0x0000000000000436)
    [(4, 0x15f65ec3fa80e4935c071a97a256ec6d77ce5853705257455f48985753c758baebf4000bc40c0002760900000002fffd), (5, 0x815664c7dfe040dde291a3d41e980d3d951e663066576f40fd0749345d33ad2656fffe5da8ffffa87ebfffffff9555c)] 2 0 0 = true := by
  decide +kernel
theorem test_fq2Mulxi_v_tw_9 : shows (ran [(0, 0xde0f8777c82e0857dde005a606d6b999e7c71f069ece0514f7823c40df41de886840025e97c0007ee1d00000009aaa1), (1, 0x9d645513d83de7e8ec9733bbf78ab2fb1d37ebee6ba24d7478fe97a6b0a807f53cc0032fc34000aaa270000000cfff3)] [] 0x0000000000000437)
    [(4, 0x40ab3263eff0206ef148d1ea0f4c069eca8f3318332bb7a07e83a49a2e99d6932b7fff2ed47fffd43f5fffffffcaaae), (5, 0x17b73dc8ba06bf040ca773961fe616c9504ff0af50a7052897080d3e78fe9e67da500058e5b00012984400000016aa94)] 2 0 0 = true := by
  decide +kernel
theorem test_fq2Frob_v_tw_10 : shows (ran [(0, 0x15f65ec3fa80e4935c071a97a256ec6d77ce5853705257455f48985753c758baebf4000bc40c0002760900000002fffd), (1, 0x11ebab9dbb81e28c6cf28d7901622c038b256521ed1f9bcb57605e0db0ddbb51b93c0018d6c40005321300000006554f)] [] 0x0000000100000438)
    [(4, 0x15f65ec3fa80e4935c071a97a256ec6d77ce5853705257455f48985753c758baebf4000bc40c0002760900000002fffd), (5, 0x815664c7dfe040dde291a3d41e980d3d951e663066576f40fd0749345d33ad2656fffe5da8ffffa87ebfffffff9555c)] 2 0 0 = true := by
  decide +kernel
theorem test_fq2Frob_v_tw_11 : shows (ran [(0, 0x15f65ec3fa80e4935c071a97a256ec6d77ce5853705257455f48985753c758baebf4000bc40c0002760900000002fffd), (1, 0x11ebab9dbb81e28c6cf28d7901622c038b256521ed1f9bcb57605e0db0ddbb51b93c0018d6c40005321300000006554f)] [] 0x0000000200000438)
    [(4, 0x15f65ec3fa80e4935c071a97a256ec6d77ce5853705257455f48985753c758baebf4000bc40c0002760900000002fffd), (5, 0x11ebab9dbb81e28c6cf28d7901622c038b256521ed1f9bcb57605e0db0ddbb51b93c0018d6c40005321300000006554f)] 2 0 0 = true := by
  decide +kernel
theorem test_fq2Eq_v_tw_12 : shows (ran [(0, 0x15f65ec3fa80e4935c071a97a256ec6d77ce5853705257455f48985753c758baebf4000bc40c0002760900000002fffd), (1, 0x11ebab9dbb81e28c6cf28d7901622c038b256521ed1f9bcb57605e0db0ddbb51b93c0018d6c40005321300000006554f), (2, 0x15f65ec3fa80e4935c071a97a256ec6d77ce5853705257455f48985753c758baebf4000bc40c0002760900000002fffd), (3, 0x11ebab9dbb81e28c6cf28d7901622c038b256521ed1f9bcb57605e0db0ddbb51b93c0018d6c40005321300000006554f)] [] 0x0000000002000039)
    [] 0xa 0 0 = true := by
  decide +kernel
theorem test_fq6Add_v_tw_13 : shows (ran [(0, 0x15f65ec3fa80e4935c071a97a256ec6d77ce5853705257455f48985753c758baebf4000bc40c0002760900000002fffd), (1, 0x11ebab9dbb81e28c6cf28d7901622c038b256521ed1f9bcb57605e0db0ddbb51b93c0018d6c40005321300000006554f), (2, 0xde0f8777c82e0857dde005a606d6b999e7c71f069ece0514f7823c40df41de886840025e97c0007ee1d00000009aaa1), (3, 0x9d645513d83de7e8ec9733bbf78ab2fb1d37ebee6ba24d7478fe97a6b0a807f53cc0032fc34000aaa270000000cfff3), (4, 0x5cb922afe84dc779fb4e61d1e83eac5c52a8b8d6387695d3fa7af30c820e316211400400eec000d6631000000105545), (5, 0x1c0df04bf85da70b0a058fe7d8f2a5bd881985be054ade337bf74e7253745acee5c004d21a40010223b00000013aa97), (6, 0x17b73dc8ba06bf040ca773961fe616c9504ff0af50a7052897080d3e78fe9e67da500058e5b00012984400000016aa94), (7, 0x13ac8aa27b07bcfd1d92e6777ef1565f63a6fd7dcd7449ae8f1fd2f4d61500fea7980065f8680015544e00000019ffe6), (8, 0xfa1d77c3c08baf62e7e5958ddfc95f576fe0a4c4a418e34873798ab332b639574e000730b20001810580000001d5538), (9, 0xb972455fd09b8ef3f69cc3a3d07d58b8a55171ac70ed2ba7f4f5e619041c62c422800801dd8001acc6200000020aa8a), (10, 0x78c712fbe0ab6e850553f1b9c1315219dac23e943dc174077672417ed5828c30f70008d3090001d886c00000023ffdc), (11, 0x381be097f0bb4e16140b1fcfb1e54b7b10330b7c0a95bc66f7ee9ce4a6e8b59dcb8009a43480020447600000027552e)] [] 0x0000000006000C40)
    [(12, 0x13ac8aa27b07bcfd1d92e6777ef1565f63a6fd7dcd7449ae8f1fd2f4d61500fea7980065f8680015544e00000019ffe6), (13, 0xb972455fd09b8ef3f69cc3a3d07d58b8a55171ac70ed2ba7f4f5e619041c62c422800801dd8001acc6200000020aa8a), (14, 0x381be097f0bb4e16140b1fcfb1e54b7b10330b7c0a95bc66f7ee9ce4a6e8b59dcb8009a43480020447600000027552e), (15, 0x156d69a73a8d976dce333f75fc8080bb3c2895d9adc8f791c6df47dbfb4c46ab95f400b31a0c002576890000002daa7d), (16, 0xd58035abc8f935ff00a2538ba96ffe762d6af76a763809db70ed348b5790bd9308400cd3f7c002aee9d000000345521), (17, 0x5429d0e3e918f5211e10afb78ad7f138984c913a0fe09a9a73e5eb56fa5d106cb1400e764ec003066b10000003affc5)] 2 0 0 = true := by
  decide +kernel
theorem test_fq6Mul_v_tw_14 : shows (ran [(0, 0x15f65ec3fa80e4935c071a97a256ec6d77ce5853705257455f48985753c758baebf4000bc40c0002760900000002fffd), (1, 0x11ebab9dbb81e28c6cf28d7901622c038b256521ed1f9bcb57605e0db0ddbb51b93c0018d6c40005321300000006554f), (2, 0xde0f8777c82e0857dde005a606d6b999e7c71f069ece0514f7823c40df41de886840025e97c0007ee1d00000009aaa1), (3, 0x9d645513d83de7e8ec9733bbf78ab2fb1d37ebee6ba24d7478fe97a6b0a807f53cc0032fc34000aaa270000000cfff3), (4, 0x5cb922afe84dc779fb4e61d1e83eac5c52a8b8d6387695d3fa7af30c820e316211400400eec000d6631000000105545), (5, 0x1c0df04bf85da70b0a058fe7d8f2a5bd881985be054ade337bf74e7253745acee5c004d21a40010223b00000013aa97), (6, 0x17b73dc8ba06bf040ca773961fe616c9504ff0af50a7052897080d3e78fe9e67da500058e5b00012984400000016aa94), (7, 0x13ac8aa27b07bcfd1d92e6777ef1565f63a6fd7dcd7449ae8f1fd2f4d61500fea7980065f8680015544e00000019ffe6), (8, 0xfa1d77c3c08baf62e7e5958ddfc95f576fe0a4c4a418e34873798ab332b639574e000730b20001810580000001d5538), (9, 0xb972455fd09b8ef3f69cc3a3d07d58b8a55171ac70ed2ba7f4f5e619041c62c422800801dd8001acc6200000020aa8a), (10, 0x78c712fbe0ab6e850553f1b9c1315219dac23e943dc174077672417ed5828c30f70008d3090001d886c00000023ffdc), (11, 0x381be097f0bb4e16140b1fcfb1e54b7b10330b7c0a95bc66f7ee9ce4a6e8b59dcb8009a43480020447600000027552e)] [] 0x0000000006000C43)
    [(12, 0x112dad353d26238c493aa7794526a7a9cf53d078f184d1e12ececcc425ff6dd71b6ff4c9248ffda77f6bfffffd2402dc), (13, 0x10c2cb52faabd41bd8e552e0b4029ebc48e510806fad2909d9aef6fafabeb3a07c5008d843b001d99ec4000002415314), (14, 0x10cab7c6fcdec966c28b93f12b5c233cb93e5eedc7b400f604e8ffbde94a6b46b1cbf7b39e33fe43a3a6fffffde25773), (15, 0x1039d6363ab886f64b1177bf0e2c330a0d3f4e06ad23c9564145a67fa243a1912650097f99b001fc9f440000026bfd94), (16, 0x19adf563fd9e770a97b9164f1834316b2f1476d479c1f1ac93bf1720971362e01fffe09fdffff96fe7fffffff800080), (17, 0x1283aa57ba31ae8c8985abdf3191c9182166a8dc5001d6ed116e6be21ff5f94d6aac0925655401e9c0ff00000254fdab)] 2 0 0 = true := by
  decide +kernel
theorem test_fq6Sqr_v_tw_15 : shows (ran [(0, 0x15f65ec3fa80e4935c071a97a256ec6d77ce5853705257455f48985753c758baebf4000bc40c0002760900000002fffd), (1, 0x11ebab9dbb81e28c6cf28d7901622c038b256521ed1f9bcb57605e0db0ddbb51b93c0018d6c40005321300000006554f), (2, 0xde0f8777c82e0857dde005a606d6b999e7c71f069ece0514f7823c40df41de886840025e97c0007ee1d00000009aaa1), (3, 0x9d645513d83de7e8ec9733bbf78ab2fb1d37ebee6ba24d7478fe97a6b0a807f53cc0032fc34000aaa270000000cfff3), (4, 0x5cb922afe84dc779fb4e61d1e83eac5c52a8b8d6387695d3fa7af30c820e316211400400eec000d6631000000105545), (5, 0x1c0df04bf85da70b0a058fe7d8f2a5bd881985be054ade337bf74e7253745acee5c004d21a40010223b00000013aa97)] [] 0x0000000000000C44)
    [(12, 0x1fdd4c480214196302aa4ed0b4dc783c906b8f8716cf005f321be78462638be6ba3fb1f845bfefada44fffffec1abe9), (13, 0x9734fe2fd3c8459081a5fb3a5ae26c29bbe0d33bce953ec1daa1c742e557deeea28031d75d800a6ce62000000cb548a), (14, 0xf55d81f3cb0d4f62034ca25c5e4c76b2bdd686f18d070a3aa3091c0fb9f44979c27fbecc3d7ff25c8e1fffffef6010a), (15, 0x7297bc17dc35cc2c9a62b93824890b48796b25e1a0b46554d815711b0a32632a5cc0377aa3400b9aca7000000e25473), (16, 0x6dd7c647e6b76c2bb5c9c606a30c22a3c761080e89a28c4707a502779170734cd13fef162ebffc76530ffffffbb0045), (17, 0x7b270de3db6a9e8577a06b5281efc66c33c74d7dc94a608e5eaa78d091e3841fbcc02d054340096ac27000000b7a9f3)] 2 0 0 = true := by
  decide +kernel
theorem test_fq6Inv_v_tw_16 : shows (ran [(0, 0), (1, 0), (2, 0x15f65ec3fa80e4935c071a97a256ec6d77ce5853705257455f48985753c758baebf4000bc40c0002760900000002fffd), (3, 0), (4, 0), (5, 0)] [] 0x0000000000000C45)
    [(12, 0), (13, 0), (14, 0), (15, 0), (16, 0x17fbb8571a006596d3916126f2d14ca26e22d1ec31ebb502633cb57c253c276f855000053ab000011804000000015554), (17, 0x20559931f7f8103778a468f507a6034f6547998c1995dbd03f41d24d174ceb4995bfff976a3fffea1fafffffffe5557)] 2 0 0 = true := by
  decide +kernel
theorem test_fq6Inv_v_tw_21 : shows (ran [(0, 0), (1, 0), (2, 0), (3, 0), (4, 0), (5, 0)] [] 0x0000000000000C45)
    [] 0x604 0xc45 0 = true := by
  decide +kernel
theorem test_fq6Mulnr_v_tw_17 : shows (ran [(0, 0x15f65ec3fa80e4935c071a97a256ec6d77ce5853705257455f48985753c758baebf4000bc40c0002760900000002fffd), (1, 0x11ebab9dbb81e28c6cf28d7901622c038b256521ed1f9bcb57605e0db0ddbb51b93c0018d6c40005321300000006554f), (2, 0xde0f8777c82e0857dde005a606d6b999e7c71f069ece0514f7823c40df41de886840025e97c0007ee1d00000009aaa1), (3, 0x9d645513d83de7e8ec9733bbf78ab2fb1d37ebee6ba24d7478fe97a6b0a807f53cc0032fc34000aaa270000000cfff3), (4, 0x5cb922afe84dc779fb4e61d1e83eac5c52a8b8d6387695d3fa7af30c820e316211400400eec000d6631000000105545), (5, 0x1c0df04bf85da70b0a058fe7d8f2a5bd881985be054ade337bf74e7253745acee5c004d21a40010223b00000013aa97)] [] 0x0000000000000C46)
    [(12, 0x40ab3263eff0206ef148d1ea0f4c069eca8f3318332bb7a07e83a49a2e99d6932b7fff2ed47fffd43f5fffffffcaaae), (13, 0x78c712fbe0ab6e850553f1b9c1315219dac23e943dc174077672417ed5828c30f70008d3090001d886c00000023ffdc), (14, 0x15f65ec3fa80e4935c071a97a256ec6d77ce5853705257455f48985753c758baebf4000bc40c0002760900000002fffd), (15, 0x11ebab9dbb81e28c6cf28d7901622c038b256521ed1f9bcb57605e0db0ddbb51b93c0018d6c40005321300000006554f), (16, 0xde0f8777c82e0857dde005a606d6b999e7c71f069ece0514f7823c40df41de886840025e97c0007ee1d00000009aaa1), (17, 0x9d645513d83de7e8ec9733bbf78ab2fb1d37ebee6ba24d7478fe97a6b0a807f53cc0032fc34000aaa270000000cfff3)] 2 0 0 = true := by
  decide +kernel
theorem test_fq6Spmul01_v_tw_18 : shows (ran [(0, 0x15f65ec3fa80e4935c071a97a256ec6d77ce5853705257455f48985753c758baebf4000bc40c0002760900000002fffd), (1, 0x11ebab9dbb81e28c6cf28d7901622c038b256521ed1f9bcb57605e0db0ddbb51b93c0018d6c40005321300000006554f), (2, 0xde0f8777c82e0857dde005a606d6b999e7c71f069ece0514f7823c40df41de886840025e97c0007ee1d00000009aaa1), (3, 0x9d645513d83de7e8ec9733bbf78ab2fb1d37ebee6ba24d7478fe97a6b0a807f53cc0032fc34000aaa270000000cfff3), (4, 0x5cb922afe84dc779fb4e61d1e83eac5c52a8b8d6387695d3fa7af30c820e316211400400eec000d6631000000105545), (5, 0x1c0df04bf85da70b0a058fe7d8f2a5bd881985be054ade337bf74e7253745acee5c004d21a40010223b00000013aa97), (6, 0x17b73dc8ba06bf040ca773961fe616c9504ff0af50a7052897080d3e78fe9e67da500058e5b00012984400000016aa94), (7, 0x13ac8aa27b07bcfd1d92e6777ef1565f63a6fd7dcd7449ae8f1fd2f4d61500fea7980065f8680015544e00000019ffe6), (8, 0xfa1d77c3c08baf62e7e5958ddfc95f576fe0a4c4a418e34873798ab332b639574e000730b20001810580000001d5538), (9, 0xb972455fd09b8ef3f69cc3a3d07d58b8a55171ac70ed2ba7f4f5e619041c62c422800801dd8001acc6200000020aa8a)] [] 0x0000000006000C47)
    [(12, 0x17453ebd3b02e603f7391cc97bc260f9df9efde3867d58cf4b7d82df25ac6feb153bf98f7ac3fea72d12fffffe5bac4f), (13, 0x136f94e2ba6c55d79e089a88f132b9377321dce13c5c078bd3bd8963b5260ded2a50059395b0012a9c440000016bfe94), (14, 0xae82f8abd6a78c9aa71297f0b258294291f03b26bcce43e78628a711c00a49dffcbfee45033ffc4a926ffffffb7aaf3), (15, 0xeb5ecf13bce13ab19fb6aaf1e5ba5d62542d6475de75d95c4e87b299dfb4ef5b53c0404dac400d7351300000106544f), (16, 0x111ea397fe69a4b1ba7b6434bacd764774b84f38512bf6730d2a0f6b0f6241eabfffeb153ffffb9feffffffffaaab00), (17, 0x19ea1bd8f8907274d2b623614198f6f499827bd6fb255f651a520c84f18812918dc0076f7240018e25b0000001e55370)] 2 0 0 = true := by
  decide +kernel
theorem test_fq6Frob_v_tw_19 : shows (ran [(0, 0x15f65ec3fa80e4935c071a97a256ec6d77ce5853705257455f48985753c758baebf4000bc40c0002760900000002fffd), (1, 0x11ebab9dbb81e28c6cf28d7901622c038b256521ed1f9bcb57605e0db0ddbb51b93c0018d6c40005321300000006554f), (2, 0xde0f8777c82e0857dde005a606d6b999e7c71f069ece0514f7823c40df41de886840025e97c0007ee1d00000009aaa1), (3, 0x9d645513d83de7e8ec9733bbf78ab2fb1d37ebee6ba24d7478fe97a6b0a807f53cc0032fc34000aaa270000000cfff3), (4, 0x5cb922afe84dc779fb4e61d1e83eac5c52a8b8d6387695d3fa7af30c820e316211400400eec000d6631000000105545), (5, 0x1c0df04bf85da70b0a058fe7d8f2a5bd881985be054ade337bf74e7253745acee5c004d21a40010223b00000013aa97)] [] 0x0000000100000C48)
    [(12, 0x15f65ec3fa80e4935c071a97a256ec6d77ce5853705257455f48985753c758baebf4000bc40c0002760900000002fffd), (13, 0x815664c7dfe040dde291a3d41e980d3d951e663066576f40fd0749345d33ad2656fffe5da8ffffa87ebfffffff9555c), (14, 0x15bd4bd6a50e69352e92fe97455e3cc40d7258692c5bf63b2c2e92dc6a018be91aa8891c6b3a974c0612279219c8c1c3), (15, 0x16ce3d5b8a2ac88e75b528df04d998c8e33395301e263d5c3aef22cd8d2d6677dba966d4fcc0f178f30d5dad93567bfd), (16, 0x76da9284f6ffb93c0a12b6611b1ead98645baaaa9405b7f5e4df7b18459e4c5c0faba5374c3d2cc548f176a04bb223), (17, 0x4a4ca189f2461a6fa2ca4afff54fdc12a05d44dca68fce320c3eabfadcfd9ab97a9320647821cfd6ba844a4d93eb2c5)] 2 0 0 = true := by
  decide +kernel
theorem test_fq6Frob_v_tw_20 : shows (ran [(0, 0x15f65ec3fa80e4935c071a97a256ec6d77ce5853705257455f48985753c758baebf4000bc40c0002760900000002fffd), (1, 0x11ebab9dbb81e28c6cf28d7901622c038b256521ed1f9bcb57605e0db0ddbb51b93c0018d6c40005321300000006554f), (2, 0xde0f8777c82e0857dde005a606d6b999e7c71f069ece0514f7823c40df41de886840025e97c0007ee1d00000009aaa1), (3, 0x9d645513d83de7e8ec9733bbf78ab2fb1d37ebee6ba24d7478fe97a6b0a807f53cc0032fc34000aaa270000000cfff3), (4, 0x5cb922afe84dc779fb4e61d1e83eac5c52a8b8d6387695d3fa7af30c820e316211400400eec000d6631000000105545), (5, 0x1c0df04bf85da70b0a058fe7d8f2a5bd881985be054ade337bf74e7253745acee5c004d21a40010223b00000013aa97)] [] 0x0000000600000C48)
    [(12, 0x15f65ec3fa80e4935c071a97a256ec6d77ce5853705257455f48985753c758baebf4000bc40c0002760900000002fffd), (13, 0x11ebab9dbb81e28c6cf28d7901622c038b256521ed1f9bcb57605e0db0ddbb51b93c0018d6c40005321300000006554f), (14, 0xde0f8777c82e0857dde005a606d6b999e7c71f069ece0514f7823c40df41de886840025e97c0007ee1d00000009aaa1), (15, 0x9d645513d83de7e8ec9733bbf78ab2fb1d37ebee6ba24d7478fe97a6b0a807f53cc0032fc34000aaa270000000cfff3), (16, 0x5cb922afe84dc779fb4e61d1e83eac5c52a8b8d6387695d3fa7af30c820e316211400400eec000d6631000000105545), (17, 0x1c0df04bf85da70b0a058fe7d8f2a5bd881985be054ade337bf74e7253745acee5c004d21a40010223b00000013aa97)] 2 0 0 = true := by
  decide +kernel
theorem test_fq12Mul_v_tw_22 : shows (ran [(0, 0), (1, 0), (2, 0), (3, 0), (4, 0), (5, 0), (6, 0x15f65ec3fa80e4935c071a97a256ec6d77ce5853705257455f48985753c758baebf4000bc40c0002760900000002fffd), (7, 0), (8, 0), (9, 0), (10, 0), (11, 0), (12, 0), (13, 0), (14, 0), (15, 0), (16, 0), (17, 0), (18, 0x15f65ec3fa80e4935c071a97a256ec6d77ce5853705257455f48985753c758baebf4000bc40c0002760900000002fffd), (19, 0), (20, 0), (21, 0), (22, 0), (23, 0)] [] 0x000000000C001853)
    [(24, 0), (25, 0), (26, 0x15f65ec3fa80e4935c071a97a256ec6d77ce5853705257455f48985753c758baebf4000bc40c0002760900000002fffd), (27, 0), (28, 0), (29, 0), (30, 0), (31, 0), (32, 0), (33, 0), (34, 0), (35, 0)] 2 0 0 = true := by
  decide +kernel
theorem test_fq12Sqr_v_tw_23 : shows (ran [(0, 0), (1, 0), (2, 0), (3, 0), (4, 0), (5, 0), (6, 0x15f65ec3fa80e4935c071a97a256ec6d77ce5853705257455f48985753c758baebf4000bc40c0002760900000002fffd), (7, 0), (8, 0), (9, 0), (10, 0), (11, 0)] [] 0x0000000000001854)
    [(24, 0), (25, 0), (26, 0x15f65ec3fa80e4935c071a97a256ec6d77ce5853705257455f48985753c758baebf4000bc40c0002760900000002fffd), (27, 0), (28, 0), (29, 0), (30, 0), (31, 0), (32, 0), (33, 0), (34, 0), (35, 0)] 2 0 0 = true := by
  decide +kernel
theorem test_fq12Inv_v_tw_24 : shows (ran [(0, 0), (1, 0), (2, 0), (3, 0), (4, 0), (5, 0), (6, 0x15f65ec3fa80e4935c071a97a256ec6d77ce5853705257455f48985753c758baebf4000bc40c0002760900000002fffd), (7, 0), (8, 0), (9, 0), (10, 0), (11, 0)] [] 0x0000000000001855)
    [(24, 0), (25, 0), (26, 0), (27, 0), (28, 0), (29, 0), (30, 0), (31, 0), (32, 0), (33, 0), (34, 0x17fbb8571a006596d3916126f2d14ca26e22d1ec31ebb502633cb57c253c276f855000053ab000011804000000015554), (35, 0x20559931f7f8103778a468f507a6034f6547998c1995dbd03f41d24d174ceb4995bfff976a3fffea1fafffffffe5557)] 2 0 0 = true := by
  decide +kernel
theorem test_fq12Inv_v_tw_31 : shows (ran [(0, 0), (1, 0), (2, 0), (3, 0), (4, 0), (5, 0), (6, 0), (7, 0), (8, 0), (9, 0), (10, 0), (11, 0)] [] 0x0000000000001855)
    [] 0x604 0x1855 0 = true := by
  decide +kernel
theorem test_fq12Conj_v_tw_25 : shows (ran [(0, 0), (1, 0), (2, 0), (3, 0), (4, 0), (5, 0), (6, 0x15f65ec3fa80e4935c071a97a256ec6d77ce5853705257455f48985753c758baebf4000bc40c0002760900000002fffd), (7, 0), (8, 0), (9, 0), (10, 0), (11, 0)] [] 0x0000000000001856)
    [(24, 0), (25, 0), (26, 0), (27, 0), (28, 0), (29, 0), (30, 0x40ab3263eff0206ef148d1ea0f4c069eca8f3318332bb7a07e83a49a2e99d6932b7fff2ed47fffd43f5fffffffcaaae), (31, 0), (32, 0), (33, 0), (34, 0), (35, 0)] 2 0 0 = true := by
  decide +kernel
theorem test_fq12Spmul014_v_tw_28 : shows (ran [(0, 0x15f65ec3fa80e4935c071a97a256ec6d77ce5853705257455f48985753c758baebf4000bc40c0002760900000002fffd), (1, 0), (2, 0), (3, 0), (4, 0), (5, 0), (6, 0), (7, 0), (8, 0), (9, 0), (10, 0), (11, 0), (12, 0x15f65ec3fa80e4935c071a97a256ec6d77ce5853705257455f48985753c758baebf4000bc40c0002760900000002fffd), (13, 0), (14, 0x11ebab9dbb81e28c6cf28d7901622c038b256521ed1f9bcb57605e0db0ddbb51b93c0018d6c40005321300000006554f), (15, 0), (16, 0xde0f8777c82e0857dde005a606d6b999e7c71f069ece0514f7823c40df41de886840025e97c0007ee1d00000009aaa1), (17, 0)] [] 0x000000000C001857)
    [(24, 0x15f65ec3fa80e4935c071a97a256ec6d77ce5853705257455f48985753c758baebf4000bc40c0002760900000002fffd), (25, 0), (26, 0x11ebab9dbb81e28c6cf28d7901622c038b256521ed1f9bcb57605e0db0ddbb51b93c0018d6c40005321300000006554f), (27, 0), (28, 0), (29, 0), (30, 0), (31, 0), (32, 0xde0f8777c82e0857dde005a606d6b999e7c71f069ece0514f7823c40df41de886840025e97c0007ee1d00000009aaa1), (33, 0), (34, 0), (35, 0)] 2 0 0 = true := by
  decide +kernel
theorem test_fq12Frob_v_tw_26 : shows (ran [(0, 0), (1, 0), (2, 0), (3, 0), (4, 0), (5, 0), (6, 0x15f65ec3fa80e4935c071a97a256ec6d77ce5853705257455f48985753c758baebf4000bc40c0002760900000002fffd), (7, 0), (8, 0), (9, 0), (10, 0), (11, 0)] [] 0x0000000100001858)
    [(24, 0), (25, 0), (26, 0), (27, 0), (28, 0), (29, 0), (30, 0x8f2220fb0fb66eb1ce393ea5daace4da35baecab2dc29ee97e83cccd117228fc6695f92b50a831307089552b319d465), (31, 0x110eefda88847faf2e3813cbe5a0de89c11b9cba40a8e8d0cf4895d42599d3945842a06bfc497cecb2f66aad4ce5d646), (32, 0), (33, 0), (34, 0), (35, 0)] 2 0 0 = true := by
  decide +kernel
theorem test_fq12Frob_v_tw_27 : shows (ran [(0, 0), (1, 0), (2, 0), (3, 0), (4, 0), (5, 0), (6, 0x15f65ec3fa80e4935c071a97a256ec6d77ce5853705257455f48985753c758baebf4000bc40c0002760900000002fffd), (7, 0), (8, 0), (9, 0), (10, 0), (11, 0)] [] 0x0000000C00001858)
    [(24, 0), (25, 0), (26, 0), (27, 0), (28, 0), (29, 0), (30, 0x15f65ec3fa80e4935c071a97a256ec6d77ce5853705257455f48985753c758baebf4000bc40c0002760900000002fffd), (31, 0), (32, 0), (33, 0), (34, 0), (35, 0)] 2 0 0 = true := by
  decide +kernel
theorem test_fq12Eq_v_tw_30 : shows (ran [(0, 0), (1, 0), (2, 0), (3, 0), (4, 0), (5, 0), (6, 0x15f65ec3fa80e4935c071a97a256ec6d77ce5853705257455f48985753c758baebf4000bc40c0002760900000002fffd), (7, 0), (8, 0), (9, 0), (10, 0), (11, 0), (12, 0), (13, 0), (14, 0), (15, 0), (16, 0), (17, 0), (18, 0x15f65ec3fa80e4935c071a97a256ec6d77ce5853705257455f48985753c758baebf4000bc40c0002760900000002fffd), (19, 0), (20, 0), (21, 0), (22, 0), (23, 0)] [] 0x000000000C000059)
    [] 0xa 0 0 = true := by
  decide +kernel
theorem test_fq12Exp_v_tw_29 : shows (ran [(0, 0), (1, 0), (2, 0), (3, 0), (4, 0), (5, 0), (6, 0x15f65ec3fa80e4935c071a97a256ec6d77ce5853705257455f48985753c758baebf4000bc40c0002760900000002fffd), (7, 0), (8, 0), (9, 0), (10, 0), (11, 0), (12, 6)] [] 0x000000010C00185A)
    [(24, 0x15f65ec3fa80e4935c071a97a256ec6d77ce5853705257455f48985753c758baebf4000bc40c0002760900000002fffd), (25, 0x15f65ec3fa80e4935c071a97a256ec6d77ce5853705257455f48985753c758baebf4000bc40c0002760900000002fffd), (26, 0), (27, 0), (28, 0), (29, 0), (30, 0), (31, 0), (32, 0), (33, 0), (34, 0), (35, 0)] 2 0 0 = true := by
  decide +kernel
theorem test_g1Add_v_g1_2 : shows (ran [(0, 0x120177419e0bfb75edce6ecc21dbf440f0ae6acdf3d0e747154f95c7143ba1c17817fc679976fff55cb38790fd530c16), (1, 0xbbc3efc5008a26a0e1c8c3fad0059c051ac582950405194dd595f13570725ce8c22631a7918fd8ebaac93d50ce72271), (2, 0x15f65ec3fa80e4935c071a97a256ec6d77ce5853705257455f48985753c758baebf4000bc40c0002760900000002fffd), (3, 0x120177419e0bfb75edce6ecc21dbf440f0ae6acdf3d0e747154f95c7143ba1c17817fc679976fff55cb38790fd530c16), (4, 0xbbc3efc5008a26a0e1c8c3fad0059c051ac582950405194dd595f13570725ce8c22631a7918fd8ebaac93d50ce72271), (5, 0x15f65ec3fa80e4935c071a97a256ec6d77ce5853705257455f48985753c758baebf4000bc40c0002760900000002fffd)] [] 0x0000000003000660)
    [(6, 0xce377ca1af03fa7e280d22f17bc05badf15559d79828ecd33ad17c51ad0c653dc1be65000d769d2103e61f4bdda902b), (7, 0x15c2f5f94df1f750628c04a2e7fb8e203ac292fd4559e0f713639d9f8c73cebea8cd3dd3a683ef06111405902b1882bf), (8, 0x17787df8a01144d41c39187f5a00b380a358b052a080a329bab2be26ae0e4b9d1844c634f231fb1d755927aa19ce44e2)] 2 0 0 = true := by
  decide +kernel
theorem test_g1Add_v_g1_3 : shows (ran [(0, 0x120177419e0bfb75edce6ecc21dbf440f0ae6acdf3d0e747154f95c7143ba1c17817fc679976fff55cb38790fd530c16), (1, 0xbbc3efc5008a26a0e1c8c3fad0059c051ac582950405194dd595f13570725ce8c22631a7918fd8ebaac93d50ce72271), (2, 0x15f65ec3fa80e4935c071a97a256ec6d77ce5853705257455f48985753c758baebf4000bc40c0002760900000002fffd), (3, 0x15f65ec3fa80e4935c071a97a256ec6d77ce5853705257455f48985753c758baebf4000bc40c0002760900000002fffd), (4, 0x15f65ec3fa80e4935c071a97a256ec6d77ce5853705257455f48985753c758baebf4000bc40c0002760900000002fffd), (5, 0)] [] 0x0000000003000660)
    [(6, 0x120177419e0bfb75edce6ecc21dbf440f0ae6acdf3d0e747154f95c7143ba1c17817fc679976fff55cb38790fd530c16), (7, 0xbbc3efc5008a26a0e1c8c3fad0059c051ac582950405194dd595f13570725ce8c22631a7918fd8ebaac93d50ce72271), (8, 0x15f65ec3fa80e4935c071a97a256ec6d77ce5853705257455f48985753c758baebf4000bc40c0002760900000002fffd)] 2 0 0 = true := by
  decide +kernel
theorem test_g1Dbl_v_g1_1 : shows (ran [(0, 0x120177419e0bfb75edce6ecc21dbf440f0ae6acdf3d0e747154f95c7143ba1c17817fc679976fff55cb38790fd530c16), (1, 0xbbc3efc5008a26a0e1c8c3fad0059c051ac582950405194dd595f13570725ce8c22631a7918fd8ebaac93d50ce72271), (2, 0x15f65ec3fa80e4935c071a97a256ec6d77ce5853705257455f48985753c758baebf4000bc40c0002760900000002fffd)] [] 0x0000000000000361)
    [(3, 0xce377ca1af03fa7e280d22f17bc05badf15559d79828ecd33ad17c51ad0c653dc1be65000d769d2103e61f4bdda902b), (4, 0x15c2f5f94df1f750628c04a2e7fb8e203ac292fd4559e0f713639d9f8c73cebea8cd3dd3a683ef06111405902b1882bf), (5, 0x17787df8a01144d41c39187f5a00b380a358b052a080a329bab2be26ae0e4b9d1844c634f231fb1d755927aa19ce44e2)] 2 0 0 = true := by
  decide +kernel
theorem test_g1Dbl_v_g1_20 : shows (ran [(0, 0x120177419e0bfb75edce6ecc21dbf440f0ae6acdf3d0e747154f95c7143ba1c17817fc679976fff55cb38790fd530c16), (1, 0xbbc3efc5008a26a0e1c8c3fad0059c051ac582950405194dd595f13570725ce8c22631a7918fd8ebaac93d50ce72271), (2, 0x1a0111ea397fe69a4b1ba7b6434bacd764774b84f38512bf6730d2a0f6b0f6241eabfffeb153ffffb9feffffffffaaab)] [] 0x0000000000000361)
    [] 0x304 0x361 0 = true := by
  decide +kernel
theorem test_g1Neg_v_g1_5 : shows (ran [(0, 0x120177419e0bfb75edce6ecc21dbf440f0ae6acdf3d0e747154f95c7143ba1c17817fc679976fff55cb38790fd530c16), (1, 0xbbc3efc5008a26a0e1c8c3fad0059c051ac582950405194dd595f13570725ce8c22631a7918fd8ebaac93d50ce72271), (2, 0x15f65ec3fa80e4935c071a97a256ec6d77ce5853705257455f48985753c758baebf4000bc40c0002760900000002fffd)] [] 0x0000000000000362)
    [(3, 0x120177419e0bfb75edce6ecc21dbf440f0ae6acdf3d0e747154f95c7143ba1c17817fc679976fff55cb38790fd530c16), (4, 0xe44d2ede97744303cff1b76964b531712caf35ba344c12a89d7738d9fa9d05592899ce4383b0270ff526c2af318883a), (5, 0x15f65ec3fa80e4935c071a97a256ec6d77ce5853705257455f48985753c758baebf4000bc40c0002760900000002fffd)] 2 0 0 = true := by
  decide +kernel
theorem test_g1Smul_v_g1_6 : shows (ran [(0, 0x120177419e0bfb75edce6ecc21dbf440f0ae6acdf3d0e747154f95c7143ba1c17817fc679976fff55cb38790fd530c16), (1, 0xbbc3efc5008a26a0e1c8c3fad0059c051ac582950405194dd595f13570725ce8c22631a7918fd8ebaac93d50ce72271), (2, 0x15f65ec3fa80e4935c071a97a256ec6d77ce5853705257455f48985753c758baebf4000bc40c0002760900000002fffd), (3, 0)] [] 0x0000000003000463)
    [(4, 0x15f65ec3fa80e4935c071a97a256ec6d77ce5853705257455f48985753c758baebf4000bc40c0002760900000002fffd), (5, 0x15f65ec3fa80e4935c071a97a256ec6d77ce5853705257455f48985753c758baebf4000bc40c0002760900000002fffd), (6, 0)] 2 0 0 = true := by
  decide +kernel
theorem test_g1Smul_v_g1_7 : shows (ran [(0, 0x120177419e0bfb75edce6ecc21dbf440f0ae6acdf3d0e747154f95c7143ba1c17817fc679976fff55cb38790fd530c16), (1, 0xbbc3efc5008a26a0e1c8c3fad0059c051ac582950405194dd595f13570725ce8c22631a7918fd8ebaac93d50ce72271), (2, 0x15f65ec3fa80e4935c071a97a256ec6d77ce5853705257455f48985753c758baebf4000bc40c0002760900000002fffd), (3, 1)] [] 0x0000000003000463)
    [(4, 0x120177419e0bfb75edce6ecc21dbf440f0ae6acdf3d0e747154f95c7143ba1c17817fc679976fff55cb38790fd530c16), (5, 0xbbc3efc5008a26a0e1c8c3fad0059c051ac582950405194dd595f13570725ce8c22631a7918fd8ebaac93d50ce72271), (6, 0x15f65ec3fa80e4935c071a97a256ec6d77ce5853705257455f48985753c758baebf4000bc40c0002760900000002fffd)] 2 0 0 = true := by
  decide +kernel
theorem test_g1Toaff_v_g1_11 : shows (ran [(0, 0xce377ca1af03fa7e280d22f17bc05badf15559d79828ecd33ad17c51ad0c653dc1be65000d769d2103e61f4bdda902b), (1, 0x15c2f5f94df1f750628c04a2e7fb8e203ac292fd4559e0f713639d9f8c73cebea8cd3dd3a683ef06111405902b1882bf), (2, 0x17787df8a01144d41c39187f5a00b380a358b052a080a329bab2be26ae0e4b9d1844c634f231fb1d755927aa19ce44e2)] [] 0x0000000000000365)
    [(3, 0x8895d26e6878526b552a39d7eb21fa54c664ae5b2b5d94d20bb47f00129603ea0583c4f3d65f953e978ce58a9ba3c), (4, 0x6361c83f8d09b1525cfc2b522d11720aec6d1c9e7b1c895b86edfd16a5aa785da33c5393f1f6afc70110b3298293940), (5, 0x15f65ec3fa80e4935c071a97a256ec6d77ce5853705257455f48985753c758baebf4000bc40c0002760900000002fffd)] 2 0 0 = true := by
  decide +kernel
theorem test_g1Toaff_v_g1_12 : shows (ran [(0, 0x15f65ec3fa80e4935c071a97a256ec6d77ce5853705257455f48985753c758baebf4000bc40c0002760900000002fffd), (1, 0x15f65ec3fa80e4935c071a97a256ec6d77ce5853705257455f48985753c758baebf4000bc40c0002760900000002fffd), (2, 0)] [] 0x0000000000000365)
    [] 0x604 0x365 0 = true := by
  decide +kernel
theorem test_g1Eq_v_g1_13 : shows (ran [(0, 0x120177419e0bfb75edce6ecc21dbf440f0ae6acdf3d0e747154f95c7143ba1c17817fc679976fff55cb38790fd530c16), (1, 0xbbc3efc5008a26a0e1c8c3fad0059c051ac582950405194dd595f13570725ce8c22631a7918fd8ebaac93d50ce72271), (2, 0x15f65ec3fa80e4935c071a97a256ec6d77ce5853705257455f48985753c758baebf4000bc40c0002760900000002fffd), (3, 0x1403b932053020a321026bc400d87754f9cb142de839779d86dcb1da638c9abda307f1a10333ffd5fed01e43f54cdb02), (4, 0xfdec223d3c55f818f916ada9e1fc77c5ffcdebba7735468b53880b7d4264c08050f18d7b4cbec76a7679ea8673a1387), (5, 0x11ebab9dbb81e28c6cf28d7901622c038b256521ed1f9bcb57605e0db0ddbb51b93c0018d6c40005321300000006554f)] [] 0x0000000003000066)
    [] 0xa 0 0 = true := by
  decide +kernel
theorem test_g1Eq_v_g1_14 : shows (ran [(0, 0), (1, 0), (2, 0), (3, 0x15f65ec3fa80e4935c071a97a256ec6d77ce5853705257455f48985753c758baebf4000bc40c0002760900000002fffd), (4, 0x15f65ec3fa80e4935c071a97a256ec6d77ce5853705257455f48985753c758baebf4000bc40c0002760900000002fffd), (5, 0)] [] 0x0000000003000066)
    [] 0xa 0 0 = true := by
  decide +kernel
theorem test_g1Endo_v_g1_16 : shows (ran [(0, 0x120177419e0bfb75edce6ecc21dbf440f0ae6acdf3d0e747154f95c7143ba1c17817fc679976fff55cb38790fd530c16), (1, 0xbbc3efc5008a26a0e1c8c3fad0059c051ac582950405194dd595f13570725ce8c22631a7918fd8ebaac93d50ce72271), (2, 0x15f65ec3fa80e4935c071a97a256ec6d77ce5853705257455f48985753c758baebf4000bc40c0002760900000002fffd)] [] 0x0000000000000367)
    [(3, 0x7a6c65c3b5fac59fe5f4c13dbf794f688d56c7bfdd61997b0335134106ffc786413d26022ca2e7d517494027ae185a0), (4, 0xbbc3efc5008a26a0e1c8c3fad0059c051ac582950405194dd595f13570725ce8c22631a7918fd8ebaac93d50ce72271), (5, 0x15f65ec3fa80e4935c071a97a256ec6d77ce5853705257455f48985753c758baebf4000bc40c0002760900000002fffd)] 2 0 0 = true := by
  decide +kernel
theorem test_g1Fromaff_v_g1_17 : shows (ran [(0, 0x120177419e0bfb75edce6ecc21dbf440f0ae6acdf3d0e747154f95c7143ba1c17817fc679976fff55cb38790fd530c16), (1, 0xbbc3efc5008a26a0e1c8c3fad0059c051ac582950405194dd595f13570725ce8c22631a7918fd8ebaac93d50ce72271)] [] 0x0000000000000368)
    [(3, 0x120177419e0bfb75edce6ecc21dbf440f0ae6acdf3d0e747154f95c7143ba1c17817fc679976fff55cb38790fd530c16), (4, 0xbbc3efc5008a26a0e1c8c3fad0059c051ac582950405194dd595f13570725ce8c22631a7918fd8ebaac93d50ce72271), (5, 0x15f65ec3fa80e4935c071a97a256ec6d77ce5853705257455f48985753c758baebf4000bc40c0002760900000002fffd)] 2 0 0 = true := by
  decide +kernel
theorem test_g1Fromaff_v_g1_18 : shows (ran [(0, 0x15f65ec3fa80e4935c071a97a256ec6d77ce5853705257455f48985753c758baebf4000bc40c0002760900000002fffd), (1, 0x15f65ec3fa80e4935c071a97a256ec6d77ce5853705257455f48985753c758baebf4000bc40c0002760900000002fffd)] [] 0x0000000000000368)
    [(3, 0x15f65ec3fa80e4935c071a97a256ec6d77ce5853705257455f48985753c758baebf4000bc40c0002760900000002fffd), (4, 0x15f65ec3fa80e4935c071a97a256ec6d77ce5853705257455f48985753c758baebf4000bc40c0002760900000002fffd), (5, 0x15f65ec3fa80e4935c071a97a256ec6d77ce5853705257455f48985753c758baebf4000bc40c0002760900000002fffd)] 2 0 0 = true := by
  decide +kernel
theorem test_g1Ident_v_g1_19 : shows (ran [] [] 0x0000000000000369)
    [(3, 0x15f65ec3fa80e4935c071a97a256ec6d77ce5853705257455f48985753c758baebf4000bc40c0002760900000002fffd), (4, 0x15f65ec3fa80e4935c071a97a256ec6d77ce5853705257455f48985753c758baebf4000bc40c0002760900000002fffd), (5, 0)] 2 0 0 = true := by
  decide +kernel
theorem test_g2Add_v_g2_2 : shows (ran [(0, 0x58191924350bcd76f67b7631863366b9894999d1a3caee9a1a893b53e2ae580b3f5fb2687b4961af5f28fa202940a10), (1, 0x11922a097360edf3c2b6ed0ef21585471b1ab6cc8541b3673bb17e18e2867806aaa0c59dbccd60c3a5a9c0759e23f606), (2, 0x83fd8e7e80dae507d3a975f0ef25a2bbefb5e96e0d495fe7e6856caa0a635a597cfa1f5e369c5a4c730af860494c4a), (3, 0xb2bc2a163de1bf2e7175850a43ccaed79495c4ec93da33a86adac6a3be4eba018aa270a2b1461dcadc0fc92df64b05d), (4, 0x15f65ec3fa80e4935c071a97a256ec6d77ce5853705257455f48985753c758baebf4000bc40c0002760900000002fffd), (5, 0), (6, 0x15f65ec3fa80e4935c071a97a256ec6d77ce5853705257455f48985753c758baebf4000bc40c0002760900000002fffd), (7, 0), (8, 0x58191924350bcd76f67b7631863366b9894999d1a3caee9a1a893b53e2ae580b3f5fb2687b4961af5f28fa202940a10), (9, 0x11922a097360edf3c2b6ed0ef21585471b1ab6cc8541b3673bb17e18e2867806aaa0c59dbccd60c3a5a9c0759e23f606), (10, 0x83fd8e7e80dae507d3a975f0ef25a2bbefb5e96e0d495fe7e6856caa0a635a597cfa1f5e369c5a4c730af860494c4a), (11, 0xb2bc2a163de1bf2e7175850a43ccaed79495c4ec93da33a86adac6a3be4eba018aa270a2b1461dcadc0fc92df64b05d), (12, 0x15f65ec3fa80e4935c071a97a256ec6d77ce5853705257455f48985753c758baebf4000bc40c0002760900000002fffd), (13, 0), (14, 0x15f65ec3fa80e4935c071a97a256ec6d77ce5853705257455f48985753c758baebf4000bc40c0002760900000002fffd), (15, 0)] [] 0x0000000008001070)
    [(16, 0xdf8609d42969a334d8d60b3075d9489c105a4609b25ba74120ae146d6804e3afd6a011a9a9eba835caed892f5cf8719), (17, 0x91c50f1fd99d478476d1d992171f86cb5e4363e88a1e00b9f44417efd4831e946ab41b55de3008c0e3c964e6fd69082), (18, 0x431a6a8d4fef5f86504a59c01d64cce77bd3da80b21321d39208efe09e29c8d5a8233ece6d7150b5660fecd110f22a9), (19, 0xce7c8d79d63421c4e8254ea56304526abf3c45a8d943061bfbb27fd3720da093826f30f0242b966ac2fdb8d9c83987), (20, 0x107fb1cfd01b5ca0fa752ebe1de4b4577df6bd2dc1a92bfcfcd0ad95414c6b4b2f9f43ebc6d38b498e615f0c0929894), (21, 0x16578542c7bc37e5ce2eb0a1487995daf292b89d927b46750d5b58d477c9d74031544e145628c3b95b81f925bec960ba), (22, 0x8d6e900182ededa9797f94e678197e3e9e2dc9d0222812b86dfcef872e14f894cd2673f959057722678af6b0a54f29), (23, 0xf67f9863945dfaa3017fefde0365c337bdc460346bf8bdc0646c0807f2a4aca257e8fb49b2a66599984670c95ec632)] 2 0 0 = true := by
  decide +kernel
theorem test_g2Add_v_g2_3 : shows (ran [(0, 0x58191924350bcd76f67b7631863366b9894999d1a3caee9a1a893b53e2ae580b3f5fb2687b4961af5f28fa202940a10), (1, 0x11922a097360edf3c2b6ed0ef21585471b1ab6cc8541b3673bb17e18e2867806aaa0c59dbccd60c3a5a9c0759e23f606), (2, 0x83fd8e7e80dae507d3a975f0ef25a2bbefb5e96e0d495fe7e6856caa0a635a597cfa1f5e369c5a4c730af860494c4a), (3, 0xb2bc2a163de1bf2e7175850a43ccaed79495c4ec93da33a86adac6a3be4eba018aa270a2b1461dcadc0fc92df64b05d), (4, 0x15f65ec3fa80e4935c071a97a256ec6d77ce5853705257455f48985753c758baebf4000bc40c0002760900000002fffd), (5, 0), (6, 0x15f65ec3fa80e4935c071a97a256ec6d77ce5853705257455f48985753c758baebf4000bc40c0002760900000002fffd), (7, 0), (8, 0x58191924350bcd76f67b7631863366b9894999d1a3caee9a1a893b53e2ae580b3f5fb2687b4961af5f28fa202940a10), (9, 0x11922a097360edf3c2b6ed0ef21585471b1ab6cc8541b3673bb17e18e2867806aaa0c59dbccd60c3a5a9c0759e23f606), (10, 0x197d145bbaff0bb54347fe40525c8734a887959b8577c95f7f4a4d344ca692c9c52f05df531d63a56d8bf5079fb65e61), (11, 0xed54f48d5a1caa764044f659f0ee1e9eb2def362a476f84e0832636bacc0a840601d8f4863f9e230c3e036d209afa4e), (12, 0x15f65ec3fa80e4935c071a97a256ec6d77ce5853705257455f48985753c758baebf4000bc40c0002760900000002fffd), (13, 0), (14, 0x15f65ec3fa80e4935c071a97a256ec6d77ce5853705257455f48985753c758baebf4000bc40c0002760900000002fffd), (15, 0)] [] 0x0000000008001070)
    [(20, 0), (21, 0), (22, 0), (23, 0)] 2 0 0 = true := by
  decide +kernel
theorem test_g2Dbl_v_g2_1 : shows (ran [(0, 0x58191924350bcd76f67b7631863366b9894999d1a3caee9a1a893b53e2ae580b3f5fb2687b4961af5f28fa202940a10), (1, 0x11922a097360edf3c2b6ed0ef21585471b1ab6cc8541b3673bb17e18e2867806aaa0c59dbccd60c3a5a9c0759e23f606), (2, 0x83fd8e7e80dae507d3a975f0ef25a2bbefb5e96e0d495fe7e6856caa0a635a597cfa1f5e369c5a4c730af860494c4a), (3, 0xb2bc2a163de1bf2e7175850a43ccaed79495c4ec93da33a86adac6a3be4eba018aa270a2b1461dcadc0fc92df64b05d), (4, 0x15f65ec3fa80e4935c071a97a256ec6d77ce5853705257455f48985753c758baebf4000bc40c0002760900000002fffd), (5, 0), (6, 0x15f65ec3fa80e4935c071a97a256ec6d77ce5853705257455f48985753c758baebf4000bc40c0002760900000002fffd), (7, 0)] [] 0x0000000000000871)
    [(8, 0xdf8609d42969a334d8d60b3075d9489c105a4609b25ba74120ae146d6804e3afd6a011a9a9eba835caed892f5cf8719), (9, 0x91c50f1fd99d478476d1d992171f86cb5e4363e88a1e00b9f44417efd4831e946ab41b55de3008c0e3c964e6fd69082), (10, 0x431a6a8d4fef5f86504a59c01d64cce77bd3da80b21321d39208efe09e29c8d5a8233ece6d7150b5660fecd110f22a9), (11, 0xce7c8d79d63421c4e8254ea56304526abf3c45a8d943061bfbb27fd3720da093826f30f0242b966ac2fdb8d9c83987), (12, 0x107fb1cfd01b5ca0fa752ebe1de4b4577df6bd2dc1a92bfcfcd0ad95414c6b4b2f9f43ebc6d38b498e615f0c0929894), (13, 0x16578542c7bc37e5ce2eb0a1487995daf292b89d927b46750d5b58d477c9d74031544e145628c3b95b81f925bec960ba), (14, 0x8d6e900182ededa9797f94e678197e3e9e2dc9d0222812b86dfcef872e14f894cd2673f959057722678af6b0a54f29), (15, 0xf67f9863945dfaa3017fefde0365c337bdc460346bf8bdc0646c0807f2a4aca257e8fb49b2a66599984670c95ec632)] 2 0 0 = true := by
  decide +kernel
theorem test_g2Dbl_v_g2_10 : shows (ran [(0, 0x58191924350bcd76f67b7631863366b9894999d1a3caee9a1a893b53e2ae580b3f5fb2687b4961af5f28fa202940a10), (1, 0x11922a097360edf3c2b6ed0ef21585471b1ab6cc8541b3673bb17e18e2867806aaa0c59dbccd60c3a5a9c0759e23f606), (2, 0x83fd8e7e80dae507d3a975f0ef25a2bbefb5e96e0d495fe7e6856caa0a635a597cfa1f5e369c5a4c730af860494c4a), (3, 0xb2bc2a163de1bf2e7175850a43ccaed79495c4ec93da33a86adac6a3be4eba018aa270a2b1461dcadc0fc92df64b05d), (4, 0x15f65ec3fa80e4935c071a97a256ec6d77ce5853705257455f48985753c758baebf4000bc40c0002760900000002fffd), (5, 0), (6, 0), (7, 0)] [] 0x0000000000000871)
    [] 0x404 0x871 0 = true := by
  decide +kernel
theorem test_g2Neg_v_g2_4 : shows (ran [(0, 0x58191924350bcd76f67b7631863366b9894999d1a3caee9a1a893b53e2ae580b3f5fb2687b4961af5f28fa202940a10), (1, 0x11922a097360edf3c2b6ed0ef21585471b1ab6cc8541b3673bb17e18e2867806aaa0c59dbccd60c3a5a9c0759e23f606), (2, 0x83fd8e7e80dae507d3a975f0ef25a2bbefb5e96e0d495fe7e6856caa0a635a597cfa1f5e369c5a4c730af860494c4a), (3, 0xb2bc2a163de1bf2e7175850a43ccaed79495c4ec93da33a86adac6a3be4eba018aa270a2b1461dcadc0fc92df64b05d), (4, 0x15f65ec3fa80e4935c071a97a256ec6d77ce5853705257455f48985753c758baebf4000bc40c0002760900000002fffd), (5, 0), (6, 0x15f65ec3fa80e4935c071a97a256ec6d77ce5853705257455f48985753c758baebf4000bc40c0002760900000002fffd), (7, 0)] [] 0x0000000000000872)
    [(10, 0x197d145bbaff0bb54347fe40525c8734a887959b8577c95f7f4a4d344ca692c9c52f05df531d63a56d8bf5079fb65e61), (11, 0xed54f48d5a1caa764044f659f0ee1e9eb2def362a476f84e0832636bacc0a840601d8f4863f9e230c3e036d209afa4e)] 2 0 0 = true := by
  decide +kernel
theorem test_g2Toaff_v_g2_6 : shows (ran [(0, 0xdf8609d42969a334d8d60b3075d9489c105a4609b25ba74120ae146d6804e3afd6a011a9a9eba835caed892f5cf8719), (1, 0x91c50f1fd99d478476d1d992171f86cb5e4363e88a1e00b9f44417efd4831e946ab41b55de3008c0e3c964e6fd69082), (2, 0x431a6a8d4fef5f86504a59c01d64cce77bd3da80b21321d39208efe09e29c8d5a8233ece6d7150b5660fecd110f22a9), (3, 0xce7c8d79d63421c4e8254ea56304526abf3c45a8d943061bfbb27fd3720da093826f30f0242b966ac2fdb8d9c83987), (4, 0x107fb1cfd01b5ca0fa752ebe1de4b4577df6bd2dc1a92bfcfcd0ad95414c6b4b2f9f43ebc6d38b498e615f0c0929894), (5, 0x16578542c7bc37e5ce2eb0a1487995daf292b89d927b46750d5b58d477c9d74031544e145628c3b95b81f925bec960ba), (6, 0x8d6e900182ededa9797f94e678197e3e9e2dc9d0222812b86dfcef872e14f894cd2673f959057722678af6b0a54f29), (7, 0xf67f9863945dfaa3017fefde0365c337bdc460346bf8bdc0646c0807f2a4aca257e8fb49b2a66599984670c95ec632)] [] 0x0000000000000875)
    [(8, 0x5710794c255c06441d7c12786354493cfdb31c9b0b64f4c3db3b820376bed2754f1199346b97f36e9d9e2da9620f98b), (9, 0x8d7ea71ea91ef8148cc8433925ef70e8ade5d736f8c97e04f5352d43479221dda0cbd905595489fd6c1d3ca6ea0d06e), (10, 0x164142af21dcf93f255e8dd8b6dc812aeecf46a6123bae4fc8b848dd652f4c780d086d64b7e9e01e15ba26eb4b0d186f), (11, 0xacf7d325cb89cf3556b155066a210541c777878931e3da6856301fc89f086ed417b114cccff748f9b4a1a895984db4), (12, 0x15f65ec3fa80e4935c071a97a256ec6d77ce5853705257455f48985753c758baebf4000bc40c0002760900000002fffd), (13, 0), (14, 0x15f65ec3fa80e4935c071a97a256ec6d77ce5853705257455f48985753c758baebf4000bc40c0002760900000002fffd), (15, 0)] 2 0 0 = true := by
  decide +kernel
theorem test_g2Eq_v_g2_12 : shows (ran [(0, 0x58191924350bcd76f67b7631863366b9894999d1a3caee9a1a893b53e2ae580b3f5fb2687b4961af5f28fa202940a10), (1, 0x11922a097360edf3c2b6ed0ef21585471b1ab6cc8541b3673bb17e18e2867806aaa0c59dbccd60c3a5a9c0759e23f606), (2, 0x83fd8e7e80dae507d3a975f0ef25a2bbefb5e96e0d495fe7e6856caa0a635a597cfa1f5e369c5a4c730af860494c4a), (3, 0xb2bc2a163de1bf2e7175850a43ccaed79495c4ec93da33a86adac6a3be4eba018aa270a2b1461dcadc0fc92df64b05d), (4, 0x15f65ec3fa80e4935c071a97a256ec6d77ce5853705257455f48985753c758baebf4000bc40c0002760900000002fffd), (5, 0), (6, 0x15f65ec3fa80e4935c071a97a256ec6d77ce5853705257455f48985753c758baebf4000bc40c0002760900000002fffd), (7, 0), (8, 0x147f8057f62f29c2dbb3f0532ae8766bcbe2b1e7d94863d5c5883eebb88610a36ab604d8299f69e4c40c705dfd6ba09b), (9, 0x86ee7e0c61ef8a68864baa751362790495c94b86e435f582b7f5488142a7e1d740b3a60f4869f3c14553f8a61dbb4a5), (10, 0xb2bc2a163de1bf2e7175850a43ccaed79495c4ec93da33a86adac6a3be4eba018aa270a2b1461dcadc0fc92df64b05d), (11, 0x197d145bbaff0bb54347fe40525c8734a887959b8577c95f7f4a4d344ca692c9c52f05df531d63a56d8bf5079fb65e61), (12, 0), (13, 0x15f65ec3fa80e4935c071a97a256ec6d77ce5853705257455f48985753c758baebf4000bc40c0002760900000002fffd), (14, 0x40ab3263eff0206ef148d1ea0f4c069eca8f3318332bb7a07e83a49a2e99d6932b7fff2ed47fffd43f5fffffffcaaae), (15, 0)] [] 0x0000000008000076)
    [] 0xa 0 0 = true := by
  decide +kernel
theorem test_g2Psi_v_g2_7 : shows (ran [(0, 0x58191924350bcd76f67b7631863366b9894999d1a3caee9a1a893b53e2ae580b3f5fb2687b4961af5f28fa202940a10), (1, 0x11922a097360edf3c2b6ed0ef21585471b1ab6cc8541b3673bb17e18e2867806aaa0c59dbccd60c3a5a9c0759e23f606), (2, 0x83fd8e7e80dae507d3a975f0ef25a2bbefb5e96e0d495fe7e6856caa0a635a597cfa1f5e369c5a4c730af860494c4a), (3, 0xb2bc2a163de1bf2e7175850a43ccaed79495c4ec93da33a86adac6a3be4eba018aa270a2b1461dcadc0fc92df64b05d), (4, 0x15f65ec3fa80e4935c071a97a256ec6d77ce5853705257455f48985753c758baebf4000bc40c0002760900000002fffd), (5, 0), (6, 0x15f65ec3fa80e4935c071a97a256ec6d77ce5853705257455f48985753c758baebf4000bc40c0002760900000002fffd), (7, 0)] [] 0x0000000000000877)
    [(8, 0xb530e5849b400e0991454c589166f5282448b152eba9fb12288b711ad2f99c2dd234206a0b2f54c6e45ac395a5f691b), (9, 0x753230f5ee5c480d23d165de008c649d616ce3c6cda786109e1a7090fc57e7192c27271b03e12cdb4e121da08a229b7), (10, 0x12b9a323281983f1de700a19416b9b79c384d30d567a35ea79b4c476b715baf17a1dfa1ac48d5b8d373a7af70645773f), (11, 0x833d80bb3d1a61dc8fa8348e959b23dab901de8f4f702170988aec97492b977bd2f535c8e40a8a644991ec9d30730e9), (12, 0x15f65ec3fa80e4935c071a97a256ec6d77ce5853705257455f48985753c758baebf4000bc40c0002760900000002fffd), (13, 0), (14, 0x15f65ec3fa80e4935c071a97a256ec6d77ce5853705257455f48985753c758baebf4000bc40c0002760900000002fffd), (15, 0)] 2 0 0 = true := by
  decide +kernel
theorem test_g2Fromaff_v_g2_8 : shows (ran [(0, 0x58191924350bcd76f67b7631863366b9894999d1a3caee9a1a893b53e2ae580b3f5fb2687b4961af5f28fa202940a10), (1, 0x11922a097360edf3c2b6ed0ef21585471b1ab6cc8541b3673bb17e18e2867806aaa0c59dbccd60c3a5a9c0759e23f606), (2, 0x83fd8e7e80dae507d3a975f0ef25a2bbefb5e96e0d495fe7e6856caa0a635a597cfa1f5e369c5a4c730af860494c4a), (3, 0xb2bc2a163de1bf2e7175850a43ccaed79495c4ec93da33a86adac6a3be4eba018aa270a2b1461dcadc0fc92df64b05d)] [] 0x0000000000000878)
    [(8, 0x58191924350bcd76f67b7631863366b9894999d1a3caee9a1a893b53e2ae580b3f5fb2687b4961af5f28fa202940a10), (9, 0x11922a097360edf3c2b6ed0ef21585471b1ab6cc8541b3673bb17e18e2867806aaa0c59dbccd60c3a5a9c0759e23f606), (10, 0x83fd8e7e80dae507d3a975f0ef25a2bbefb5e96e0d495fe7e6856caa0a635a597cfa1f5e369c5a4c730af860494c4a), (11, 0xb2bc2a163de1bf2e7175850a43ccaed79495c4ec93da33a86adac6a3be4eba018aa270a2b1461dcadc0fc92df64b05d), (12, 0x15f65ec3fa80e4935c071a97a256ec6d77ce5853705257455f48985753c758baebf4000bc40c0002760900000002fffd), (13, 0), (14, 0x15f65ec3fa80e4935c071a97a256ec6d77ce5853705257455f48985753c758baebf4000bc40c0002760900000002fffd), (15, 0)] 2 0 0 = true := by
  decide +kernel
theorem test_g2Ident_v_g2_9 : shows (ran [] [] 0x0000000000000879)
    [(8, 0x15f65ec3fa80e4935c071a97a256ec6d77ce5853705257455f48985753c758baebf4000bc40c0002760900000002fffd), (9, 0), (10, 0x15f65ec3fa80e4935c071a97a256ec6d77ce5853705257455f48985753c758baebf4000bc40c0002760900000002fffd), (11, 0), (12, 0), (13, 0), (14, 0), (15, 0)] 2 0 0 = true := by
  decide +kernel
theorem test_linedbl_v_pr_1 : shows (ran [(0, 0x58191924350bcd76f67b7631863366b9894999d1a3caee9a1a893b53e2ae580b3f5fb2687b4961af5f28fa202940a10), (1, 0x11922a097360edf3c2b6ed0ef21585471b1ab6cc8541b3673bb17e18e2867806aaa0c59dbccd60c3a5a9c0759e23f606), (2, 0x83fd8e7e80dae507d3a975f0ef25a2bbefb5e96e0d495fe7e6856caa0a635a597cfa1f5e369c5a4c730af860494c4a), (3, 0xb2bc2a163de1bf2e7175850a43ccaed79495c4ec93da33a86adac6a3be4eba018aa270a2b1461dcadc0fc92df64b05d), (4, 0x15f65ec3fa80e4935c071a97a256ec6d77ce5853705257455f48985753c758baebf4000bc40c0002760900000002fffd), (5, 0), (6, 0x15f65ec3fa80e4935c071a97a256ec6d77ce5853705257455f48985753c758baebf4000bc40c0002760900000002fffd), (7, 0), (8, 0x120177419e0bfb75edce6ecc21dbf440f0ae6acdf3d0e747154f95c7143ba1c17817fc679976fff55cb38790fd530c16), (9, 0xbbc3efc5008a26a0e1c8c3fad0059c051ac582950405194dd595f13570725ce8c22631a7918fd8ebaac93d50ce72271)] [] 0x0000000008001080)
    [(16, 0xdf8609d42969a334d8d60b3075d9489c105a4609b25ba74120ae146d6804e3afd6a011a9a9eba835caed892f5cf8719), (17, 0x91c50f1fd99d478476d1d992171f86cb5e4363e88a1e00b9f44417efd4831e946ab41b55de3008c0e3c964e6fd69082), (18, 0x431a6a8d4fef5f86504a59c01d64cce77bd3da80b21321d39208efe09e29c8d5a8233ece6d7150b5660fecd110f22a9), (19, 0xce7c8d79d63421c4e8254ea56304526abf3c45a8d943061bfbb27fd3720da093826f30f0242b966ac2fdb8d9c83987), (20, 0x107fb1cfd01b5ca0fa752ebe1de4b4577df6bd2dc1a92bfcfcd0ad95414c6b4b2f9f43ebc6d38b498e615f0c0929894), (21, 0x16578542c7bc37e5ce2eb0a1487995daf292b89d927b46750d5b58d477c9d74031544e145628c3b95b81f925bec960ba), (22, 0x8d6e900182ededa9797f94e678197e3e9e2dc9d0222812b86dfcef872e14f894cd2673f959057722678af6b0a54f29), (23, 0xf67f9863945dfaa3017fefde0365c337bdc460346bf8bdc0646c0807f2a4aca257e8fb49b2a66599984670c95ec632), (24, 0x643c42a1f6a008137c92fab9ea539bb6f845b37e080e5dc30d1942baa126edaa04c9204cec6827ae547457b5803d28e), (25, 0x1378d5a36d32abd4da1b03b43c10b6499e4fcc458c6857916865350865cd31c6b667f347cf9d52f1fddf233864606368), (26, 0x7523800f19a24a0e8bee539dabcdd3b91b90ebb7fedf6629a9b1e3c0a528048a218783f1694f1113dc18576b0a93689), (27, 0x105055d226b57d1bb2e6ceb546bb5cc5e0a9ab6ce09881ccbd43fa49f813a53eaede991f0d4b24b4fb282f81c642bcf0), (28, 0x111ea093b5a39b19e788053380974780a9046d9149a7d93e4c0f36067260a198e02a453e79b0c3a8991d61fcfc6dc58a), (29, 0x4e9c4f0dbe282dedd1e798dc7c1104799a31cab94e5e64963af772bc266ee9a279e4ea81ea034977d2c38f459505054)] 2 0 0 = true := by
  decide +kernel
theorem test_lineadd_v_pr_2 : shows (ran [(16, 0xdf8609d42969a334d8d60b3075d9489c105a4609b25ba74120ae146d6804e3afd6a011a9a9eba835caed892f5cf8719), (17, 0x91c50f1fd99d478476d1d992171f86cb5e4363e88a1e00b9f44417efd4831e946ab41b55de3008c0e3c964e6fd69082), (18, 0x431a6a8d4fef5f86504a59c01d64cce77bd3da80b21321d39208efe09e29c8d5a8233ece6d7150b5660fecd110f22a9), (19, 0xce7c8d79d63421c4e8254ea56304526abf3c45a8d943061bfbb27fd3720da093826f30f0242b966ac2fdb8d9c83987), (20, 0x107fb1cfd01b5ca0fa752ebe1de4b4577df6bd2dc1a92bfcfcd0ad95414c6b4b2f9f43ebc6d38b498e615f0c0929894), (21, 0x16578542c7bc37e5ce2eb0a1487995daf292b89d927b46750d5b58d477c9d74031544e145628c3b95b81f925bec960ba), (22, 0x8d6e900182ededa9797f94e678197e3e9e2dc9d0222812b86dfcef872e14f894cd2673f959057722678af6b0a54f29), (23, 0xf67f9863945dfaa3017fefde0365c337bdc460346bf8bdc0646c0807f2a4aca257e8fb49b2a66599984670c95ec632), (40, 0x58191924350bcd76f67b7631863366b9894999d1a3caee9a1a893b53e2ae580b3f5fb2687b4961af5f28fa202940a10), (41, 0x11922a097360edf3c2b6ed0ef21585471b1ab6cc8541b3673bb17e18e2867806aaa0c59dbccd60c3a5a9c0759e23f606), (42, 0x83fd8e7e80dae507d3a975f0ef25a2bbefb5e96e0d495fe7e6856caa0a635a597cfa1f5e369c5a4c730af860494c4a), (43, 0xb2bc2a163de1bf2e7175850a43ccaed79495c4ec93da33a86adac6a3be4eba018aa270a2b1461dcadc0fc92df64b05d), (44, 0x120177419e0bfb75edce6ecc21dbf440f0ae6acdf3d0e747154f95c7143ba1c17817fc679976fff55cb38790fd530c16), (45, 0xbbc3efc5008a26a0e1c8c3fad0059c051ac582950405194dd595f13570725ce8c22631a7918fd8ebaac93d50ce72271)] [] 0x0000000028101E81)
    [(30, 0xcb7e2ff7d2419cbae02fee6c0909a58e1e122fbe08c0968d5d8cfbeba5618e1705faa02905555462aa72412d6d2cf2f), (31, 0x74c8d9ecda090a25fc7646773669028f25879480b8c33a6f07ab0aa29ed13bbdc27c7040530e524122a008b1c0ec0f9), (32, 0x151b51294bc0fab600cda85d5ed0f94165058f4b69b113dcfd319075303dc76fe29df91b5d680f0504f7b16bed161986), (33, 0xd3a97f92af9833528a84f3e7159959f48d05a407c3c01d795b7156194f2cefed11ad997c48d10ace23af0d62f2c574e), (34, 0x12f135b565072ffd8faa05522ac01da5096bc0ae1de6eca3df27253d42c22d9e2a55e6c4506aafd0a5e24e340c7a03ff), (35, 0x688f93badbe50bdf79ee12f6b0aa3f39836791f4d9480a2915653f3002f2c2df0e8950b0af88d7eed049e877e8ef67a), (36, 0x146ec22b228acc7b05babe583a47b6dcb10cebde14cf89d57b1ecfadffd0e0b785970a8ad66888817c619777b8c8ff34), (37, 0x227ff6aa2fe2de9ecd4461bc88220099940934fe7d0d42d557d4b3f17411285a5adb8ced469966aee4014d3a63e276a), (38, 0x179a55d014bf8a9a43ba27f7ce72f32b87f74d68add9d596ac74b94d19f871443ba5ee1dde7817fd74bfdd645d7e9208), (39, 0x2151bfe04f374653ee851573b2b0e590f2fa1213d64f88397ad796a00f2ffbf5a6897239dd2c979ca9accc9319c9007), (40, 0x16c49a96db85498b81f68eed000a29c1b3b084421755f8c9e4db40c9b509d21ce505fb4ba0072cb0f84ad65fc3064caf), (41, 0x3699616031ab1e7e2880b250f4409c700b2011a0957221e6019e8c450227aa36db83e82539d69a3a0b8b39c85469531), (42, 0x194c674308ec1967d3b11a86e6f738d5556aab6952dde006f2f77a229e70ad38f2fa8fd5525cdc8414884f6ba90840de), (43, 0xdd8cbc64ab15294590ca5f26113d200be954fd11ba3b7a90f0f7b0715d661a0895d1235c3c1d814313dac0da31b095f)] 2 0 0 = true := by
  decide +kernel
theorem test_finexp_v_pr_4 : shows (ran [(50, 0x3a22e046e708d71be11f86e0de6770d5e14ad533455a78853e964dbf67fa93ece174a6ce348e8caa067a4e38dd6fea0), (51, 0xb1ac642909bf9718b9c8640c65f1cf10631b692e7a16961528757fa73ed1fe5d1858603d8f2f77a95c3278104a0731), (52, 0x6a7cb9b68aa7756fbd19692f51c6cca7a82969f0868335c3438cf0c35312aea08b48d1be8e954301b084ffe1b41e437), (53, 0x1461ae5ff2690e00526aef8aa252e46348da57ee6bd4a7812190fcbea5c7d10e9743a51a787cefe35f3731f203b80d89), (54, 0xfd24b214c1104cab33c6bd2bf897e0fd6436f9303a8557aaec2b98cc1e58ab42c8a17202fb5dcf9064eba2edf2c68fb), (55, 0x3310475fa5d50f10c91a8d36cd6bf53546dba137ec053ffa32380b4307d3d978674bcb58aa33344c4fc89decd238f6a), (56, 0x73e9b5713188876894d9f074d9cf8fa527adb08066714b30a19a78c93509e31aa3c7f10216b553735951d4dfba91c51), (57, 0x3b9688a4370961f0a7fed49daf8b3c1c70460323745c5727e566da54e41c7a8b82ff5aa4e6d579214af0d003f992928), (58, 0x1271b1eb2f6b10e3595a846df0084bcb34b65f76f91ecea7a2294263eb2361b98ebf0af77cc62c493c5623f3f74f2a64), (59, 0x156cb2b28f1b5d00a5306576198bff9c8f256ef89af28b111b134a659272d960f9893ee829d81d369870232f453bec18), (60, 0xb6be53a49b410e355247ba8f7f91e747bc4e5240b0fbe438cd4667412f80d516f64c24b8eb0b7fb3d5b7f3227cab8bf), (61, 0xed44c77f58001ec7c10ed472bb3c3c406c8bb791513a71d1a7fff370ea7e58ab2f532d0a25a5f9a12468332df82d2dc)] [] 0x0000000000323E83)
    [(62, 0x13f3448a3fc6d825a611342781843780cef63e7366d40614c8ce546fc96bcdf997d32b76fd7725381972e433a01f85c5), (63, 0x83ca4afba360478a16c0732bdbcb066f4801ca2e13107aa9c9b29248d39ea929d68a482f7797e7dd26331b02e9d6995), (64, 0x12d6b7929e777a5e8cf89ebf57fdaac50bdb0bd99c4deda8c8e55b10a0bd9c452716b6f4b23e960d59e261db0916b641), (65, 0x1723703a926f8889a12f55f5eb89c210fc6f5aa97d9a990bdb3126a6e02ad62c34a06e3a8f0963655fc85188b0e15f35), (66, 0x179fa78c58388f1f64e176a6a64c99b0fa73d7e18ac99df63183aaf5ec279fdf43f65b8611ab758593588f2971828778), (67, 0x5f5a71e9fddc33966e0cede6c735529c01d0177221a5ba5a44412d0699d056e0d11b9b52aa3f16b672a0a11ca2aef12), (68, 0x9245da6e2d72eaef0c27ff780500af0cd5430c2da3707c7d0c834a6a81f290d5ac56a5d35fc8304d30a88a1b062c679), (69, 0x15af618341c59acc820a121e21a70020a3e85e53b9d3e3c14c9e459f3c561bf4e2d1c8234918fe139f2e0676791b5156), (70, 0x18a64a87fb686eaa04a3d3f80c86ce6d8ba41902ea504a8b5256d749477434bc73eb38721ca886b97c95658c24993ab1), (71, 0x3f847aa9fdbe5677cc1061b82f945f67158cdf3786058f7fc0ee59f94f046a02a5277ac92a73945bb83e71bb920cf26), (72, 0xc86ba0d4af13fc28e159be3b605dffac9a0f62f0842ee44b1aa599a1a9937661cd7ec9a43998a6e8078dba56134e657), (73, 0x197e9f49861f22429a6d96d2e526a5fcf567afdd40cee4e27583183e03b085147694ca48721a906ce80ff2a06a52ffb1)] 2 0 0 = true := by
  decide +kernel
theorem test_finexp_v_pr_6 : shows (ran [(0, 0), (1, 0), (2, 0), (3, 0), (4, 0), (5, 0), (6, 0), (7, 0), (8, 0), (9, 0), (10, 0), (11, 0)] [] 0x0000000000000C83)
    [] 0x604 0xc83 0 = true := by
  decide +kernel
theorem test_pair_v_pr_7 : shows (ran [(0, 0x15f65ec3fa80e4935c071a97a256ec6d77ce5853705257455f48985753c758baebf4000bc40c0002760900000002fffd), (1, 0x15f65ec3fa80e4935c071a97a256ec6d77ce5853705257455f48985753c758baebf4000bc40c0002760900000002fffd), (2, 0), (3, 0x58191924350bcd76f67b7631863366b9894999d1a3caee9a1a893b53e2ae580b3f5fb2687b4961af5f28fa202940a10), (4, 0x11922a097360edf3c2b6ed0ef21585471b1ab6cc8541b3673bb17e18e2867806aaa0c59dbccd60c3a5a9c0759e23f606), (5, 0x83fd8e7e80dae507d3a975f0ef25a2bbefb5e96e0d495fe7e6856caa0a635a597cfa1f5e369c5a4c730af860494c4a), (6, 0xb2bc2a163de1bf2e7175850a43ccaed79495c4ec93da33a86adac6a3be4eba018aa270a2b1461dcadc0fc92df64b05d), (7, 0x15f65ec3fa80e4935c071a97a256ec6d77ce5853705257455f48985753c758baebf4000bc40c0002760900000002fffd), (8, 0), (9, 0x15f65ec3fa80e4935c071a97a256ec6d77ce5853705257455f48985753c758baebf4000bc40c0002760900000002fffd), (10, 0)] [] 0x0000000003000B84)
    [(11, 0x15f65ec3fa80e4935c071a97a256ec6d77ce5853705257455f48985753c758baebf4000bc40c0002760900000002fffd), (12, 0), (13, 0), (14, 0), (15, 0), (16, 0), (17, 0), (18, 0), (19, 0), (20, 0), (21, 0), (22, 0)] 2 0 0 = true := by
  decide +kernel
theorem test_pair_v_pr_8 : shows (ran [(0, 0x120177419e0bfb75edce6ecc21dbf440f0ae6acdf3d0e747154f95c7143ba1c17817fc679976fff55cb38790fd530c16), (1, 0xbbc3efc5008a26a0e1c8c3fad0059c051ac582950405194dd595f13570725ce8c22631a7918fd8ebaac93d50ce72271), (2, 0x15f65ec3fa80e4935c071a97a256ec6d77ce5853705257455f48985753c758baebf4000bc40c0002760900000002fffd), (3, 0x58191924350bcd76f67b7631863366b9894999d1a3caee9a1a893b53e2ae580b3f5fb2687b4961af5f28fa202940a10), (4, 0x11922a097360edf3c2b6ed0ef21585471b1ab6cc8541b3673bb17e18e2867806aaa0c59dbccd60c3a5a9c0759e23f606), (5, 0x83fd8e7e80dae507d3a975f0ef25a2bbefb5e96e0d495fe7e6856caa0a635a597cfa1f5e369c5a4c730af860494c4a), (6, 0xb2bc2a163de1bf2e7175850a43ccaed79495c4ec93da33a86adac6a3be4eba018aa270a2b1461dcadc0fc92df64b05d), (7, 0x15f65ec3fa80e4935c071a97a256ec6d77ce5853705257455f48985753c758baebf4000bc40c0002760900000002fffd), (8, 0), (9, 0x15f65ec3fa80e4935c071a97a256ec6d77ce5853705257455f48985753c758baebf4000bc40c0002760900000002fffd), (10, 0)] [] 0x0000000003000B84)
    [(11, 0x13f3448a3fc6d825a611342781843780cef63e7366d40614c8ce546fc96bcdf997d32b76fd7725381972e433a01f85c5), (12, 0x83ca4afba360478a16c0732bdbcb066f4801ca2e13107aa9c9b29248d39ea929d68a482f7797e7dd26331b02e9d6995), (13, 0x12d6b7929e777a5e8cf89ebf57fdaac50bdb0bd99c4deda8c8e55b10a0bd9c452716b6f4b23e960d59e261db0916b641), (14, 0x1723703a926f8889a12f55f5eb89c210fc6f5aa97d9a990bdb3126a6e02ad62c34a06e3a8f0963655fc85188b0e15f35), (15, 0x179fa78c58388f1f64e176a6a64c99b0fa73d7e18ac99df63183aaf5ec279fdf43f65b8611ab758593588f2971828778), (16, 0x5f5a71e9fddc33966e0cede6c735529c01d0177221a5ba5a44412d0699d056e0d11b9b52aa3f16b672a0a11ca2aef12), (17, 0x9245da6e2d72eaef0c27ff780500af0cd5430c2da3707c7d0c834a6a81f290d5ac56a5d35fc8304d30a88a1b062c679), (18, 0x15af618341c59acc820a121e21a70020a3e85e53b9d3e3c14c9e459f3c561bf4e2d1c8234918fe139f2e0676791b5156), (19, 0x18a64a87fb686eaa04a3d3f80c86ce6d8ba41902ea504a8b5256d749477434bc73eb38721ca886b97c95658c24993ab1), (20, 0x3f847aa9fdbe5677cc1061b82f945f67158cdf3786058f7fc0ee59f94f046a02a5277ac92a73945bb83e71bb920cf26), (21, 0xc86ba0d4af13fc28e159be3b605dffac9a0f62f0842ee44b1aa599a1a9937661cd7ec9a43998a6e8078dba56134e657), (22, 0x197e9f49861f22429a6d96d2e526a5fcf567afdd40cee4e27583183e03b085147694ca48721a906ce80ff2a06a52ffb1)] 2 0 0 = true := by
  decide +kernel
theorem test_latDecomp1_v_lt_1 : shows (ran [(3, 0)] [] 0x0000000000030A90)
    [(10, 0), (11, 0)] 2 0 0 = true := by
  decide +kernel
theorem test_latDecomp1_v_lt_8 : shows (ran [(3, 0x73eda753299d7d483339d80809a1d80553bda402fffe5bfeffffffff00000001)] [] 0x0000000000030A90)
    [] 0x704 0x30a90 0 = true := by
  decide +kernel
theorem test_latDecomp2_v_lt_9 : shows (ran [(3, 0)] [] 0x0000000000030A91)
    [(10, 0), (11, 0), (12, 0), (13, 0)] 2 0 0 = true := by
  decide +kernel
theorem test_latDecomp2_v_lt_16 : shows (ran [(3, 0xffffffffffffffffffffffffffffffffffffffffffffffffffffffffffffffffffffffffffffffffffffffffffffffff)] [] 0x0000000000030A91)
    [] 0x704 0x30a91 0 = true := by
  decide +kernel

/-! ### The examples of the commands' own rules, where no vector is -/

/-- 42_tower.md R201: y - 1, with y at s0 and 1 at s6. -/
theorem test_fq6Sub_y_minus_one : shows (ran [(2, 0x15f65ec3fa80e4935c071a97a256ec6d77ce5853705257455f48985753c758baebf4000bc40c0002760900000002fffd), (6, 0x15f65ec3fa80e4935c071a97a256ec6d77ce5853705257455f48985753c758baebf4000bc40c0002760900000002fffd)] [] 0x0000000006000C41)
    [(12, 0x40ab3263eff0206ef148d1ea0f4c069eca8f3318332bb7a07e83a49a2e99d6932b7fff2ed47fffd43f5fffffffcaaae), (13, 0), (14, 0x15f65ec3fa80e4935c071a97a256ec6d77ce5853705257455f48985753c758baebf4000bc40c0002760900000002fffd), (15, 0)] 2 0 0 = true := by
  decide +kernel
/-- 42_tower.md R202: -y. -/
theorem test_fq6Neg_y : shows (ran [(2, 0x15f65ec3fa80e4935c071a97a256ec6d77ce5853705257455f48985753c758baebf4000bc40c0002760900000002fffd)] [] 0x0000000000000C42)
    [(12, 0), (14, 0x40ab3263eff0206ef148d1ea0f4c069eca8f3318332bb7a07e83a49a2e99d6932b7fff2ed47fffd43f5fffffffcaaae), (16, 0)] 2 0 0 = true := by
  decide +kernel
/-- 42_tower.md R209: all six coefficients count. -/
theorem test_fq6Eq_last_coefficient : shows (ran [(5, 0x15f65ec3fa80e4935c071a97a256ec6d77ce5853705257455f48985753c758baebf4000bc40c0002760900000002fffd)] [] 0x0000000006000049)
    [(5, 0x15f65ec3fa80e4935c071a97a256ec6d77ce5853705257455f48985753c758baebf4000bc40c0002760900000002fffd)] 2 0 0 = true := by
  decide +kernel
/-- 42_tower.md R210: 1 + w, with 1 at s0 and w at s12. -/
theorem test_fq12Add_one_plus_w : shows (ran [(0, 0x15f65ec3fa80e4935c071a97a256ec6d77ce5853705257455f48985753c758baebf4000bc40c0002760900000002fffd), (18, 0x15f65ec3fa80e4935c071a97a256ec6d77ce5853705257455f48985753c758baebf4000bc40c0002760900000002fffd)] [] 0x000000000C001850)
    [(24, 0x15f65ec3fa80e4935c071a97a256ec6d77ce5853705257455f48985753c758baebf4000bc40c0002760900000002fffd), (25, 0), (30, 0x15f65ec3fa80e4935c071a97a256ec6d77ce5853705257455f48985753c758baebf4000bc40c0002760900000002fffd), (31, 0)] 2 0 0 = true := by
  decide +kernel
/-- 42_tower.md R211: 1 - 1 = 0. -/
theorem test_fq12Sub_one_minus_one : shows (ran [(0, 0x15f65ec3fa80e4935c071a97a256ec6d77ce5853705257455f48985753c758baebf4000bc40c0002760900000002fffd)] [] 0x0000000000000C51)
    [(12, 0), (23, 0)] 2 0 0 = true := by
  decide +kernel
/-- 42_tower.md R212: -1. -/
theorem test_fq12Neg_one : shows (ran [(0, 0x15f65ec3fa80e4935c071a97a256ec6d77ce5853705257455f48985753c758baebf4000bc40c0002760900000002fffd)] [] 0x0000000000000C52)
    [(12, 0x40ab3263eff0206ef148d1ea0f4c069eca8f3318332bb7a07e83a49a2e99d6932b7fff2ed47fffd43f5fffffffcaaae), (13, 0)] 2 0 0 = true := by
  decide +kernel
/-- 95_test_vectors.md, program P3, step 4. -/
theorem test_g1Smulglv_program_P3 : shows (ran [(0, 0x120177419e0bfb75edce6ecc21dbf440f0ae6acdf3d0e747154f95c7143ba1c17817fc679976fff55cb38790fd530c16), (1, 0xbbc3efc5008a26a0e1c8c3fad0059c051ac582950405194dd595f13570725ce8c22631a7918fd8ebaac93d50ce72271), (2, 0x15f65ec3fa80e4935c071a97a256ec6d77ce5853705257455f48985753c758baebf4000bc40c0002760900000002fffd), (3, 0x1234567890abcdef1234567890abcdef1234567890abcdef1234567890abcdef)] [] 0x0000000003000764)
    [(7, 0x144df1dfb73fe4c90c7f4524afddc604f6e5511ef1ecdc8b03a7030b93e2effe705adf425f7cd30433d51b69f255f38a), (8, 0x0ca433a27097774a894fae92304253810e148be27f0827cdae3e51e149d8321aa983f8b0e70873d41d8619584ade56af), (9, 0x127ef8688f28ba93d420046553da4eddffd75759a1254bc06e7b8862f4121ce1932361a14d49f4793999b0b17be5d4ea)] 2 0 0 = true := by
  decide +kernel
/-- 43_groups.md R263: the scalar 2 gives the coordinates of G2.DBL. -/
theorem test_g2Smul_by_two : shows (ran [(0, 0x58191924350bcd76f67b7631863366b9894999d1a3caee9a1a893b53e2ae580b3f5fb2687b4961af5f28fa202940a10), (1, 0x11922a097360edf3c2b6ed0ef21585471b1ab6cc8541b3673bb17e18e2867806aaa0c59dbccd60c3a5a9c0759e23f606), (2, 0x83fd8e7e80dae507d3a975f0ef25a2bbefb5e96e0d495fe7e6856caa0a635a597cfa1f5e369c5a4c730af860494c4a), (3, 0xb2bc2a163de1bf2e7175850a43ccaed79495c4ec93da33a86adac6a3be4eba018aa270a2b1461dcadc0fc92df64b05d), (4, 0x15f65ec3fa80e4935c071a97a256ec6d77ce5853705257455f48985753c758baebf4000bc40c0002760900000002fffd), (5, 0), (6, 0x15f65ec3fa80e4935c071a97a256ec6d77ce5853705257455f48985753c758baebf4000bc40c0002760900000002fffd), (7, 0), (8, 2)] [] 0x0000000008000973)
    [(9, 0xdf8609d42969a334d8d60b3075d9489c105a4609b25ba74120ae146d6804e3afd6a011a9a9eba835caed892f5cf8719), (10, 0x91c50f1fd99d478476d1d992171f86cb5e4363e88a1e00b9f44417efd4831e946ab41b55de3008c0e3c964e6fd69082), (11, 0x431a6a8d4fef5f86504a59c01d64cce77bd3da80b21321d39208efe09e29c8d5a8233ece6d7150b5660fecd110f22a9), (12, 0xce7c8d79d63421c4e8254ea56304526abf3c45a8d943061bfbb27fd3720da093826f30f0242b966ac2fdb8d9c83987), (13, 0x107fb1cfd01b5ca0fa752ebe1de4b4577df6bd2dc1a92bfcfcd0ad95414c6b4b2f9f43ebc6d38b498e615f0c0929894), (14, 0x16578542c7bc37e5ce2eb0a1487995daf292b89d927b46750d5b58d477c9d74031544e145628c3b95b81f925bec960ba), (15, 0x8d6e900182ededa9797f94e678197e3e9e2dc9d0222812b86dfcef872e14f894cd2673f959057722678af6b0a54f29), (16, 0xf67f9863945dfaa3017fefde0365c337bdc460346bf8bdc0646c0807f2a4aca257e8fb49b2a66599984670c95ec632)] 2 0 0 = true := by
  decide +kernel
/-- 43_groups.md R264: the scalar 0 gives (1, 1, 0, 0). -/
theorem test_g2Smulgls_by_zero : shows (ran [(0, 0x58191924350bcd76f67b7631863366b9894999d1a3caee9a1a893b53e2ae580b3f5fb2687b4961af5f28fa202940a10), (1, 0x11922a097360edf3c2b6ed0ef21585471b1ab6cc8541b3673bb17e18e2867806aaa0c59dbccd60c3a5a9c0759e23f606), (2, 0x83fd8e7e80dae507d3a975f0ef25a2bbefb5e96e0d495fe7e6856caa0a635a597cfa1f5e369c5a4c730af860494c4a), (3, 0xb2bc2a163de1bf2e7175850a43ccaed79495c4ec93da33a86adac6a3be4eba018aa270a2b1461dcadc0fc92df64b05d), (4, 0x15f65ec3fa80e4935c071a97a256ec6d77ce5853705257455f48985753c758baebf4000bc40c0002760900000002fffd), (5, 0), (6, 0x15f65ec3fa80e4935c071a97a256ec6d77ce5853705257455f48985753c758baebf4000bc40c0002760900000002fffd), (7, 0)] [] 0x0000000008001174)
    [(17, 0x15f65ec3fa80e4935c071a97a256ec6d77ce5853705257455f48985753c758baebf4000bc40c0002760900000002fffd), (18, 0), (19, 0x15f65ec3fa80e4935c071a97a256ec6d77ce5853705257455f48985753c758baebf4000bc40c0002760900000002fffd), (20, 0), (21, 0), (24, 0)] 2 0 0 = true := by
  decide +kernel
/-- 43_groups.md R264: r is out of range. -/
theorem test_g2Smulgls_by_r : shows (ran [(0, 0x58191924350bcd76f67b7631863366b9894999d1a3caee9a1a893b53e2ae580b3f5fb2687b4961af5f28fa202940a10), (1, 0x11922a097360edf3c2b6ed0ef21585471b1ab6cc8541b3673bb17e18e2867806aaa0c59dbccd60c3a5a9c0759e23f606), (2, 0x83fd8e7e80dae507d3a975f0ef25a2bbefb5e96e0d495fe7e6856caa0a635a597cfa1f5e369c5a4c730af860494c4a), (3, 0xb2bc2a163de1bf2e7175850a43ccaed79495c4ec93da33a86adac6a3be4eba018aa270a2b1461dcadc0fc92df64b05d), (4, 0x15f65ec3fa80e4935c071a97a256ec6d77ce5853705257455f48985753c758baebf4000bc40c0002760900000002fffd), (5, 0), (6, 0x15f65ec3fa80e4935c071a97a256ec6d77ce5853705257455f48985753c758baebf4000bc40c0002760900000002fffd), (7, 0), (8, 0x73eda753299d7d483339d80809a1d80553bda402fffe5bfeffffffff00000001)] [] 0x0000000008001174)
    [(17, 0)] 0x704 0x8001174 0 = true := by
  decide +kernel
/-- 96_test_vectors_pairing.md, V-PR-3, as field values: the first two coefficients of the Miller value of the generators. -/
theorem test_miller_value : (millerValue g1Gen.x g1Gen.y g2Gen.x g2Gen.y).c0.c0 =
    ⟨0x05194f5785436c8debf0eb2bab4c6ef3de7dc0633c85769173777b782bf897fa45025fd03e7be941123c4ee19910e62e,
     0x0e760e96f911ae38a6042da82d7b0e30787864e725e9d5462d224c91c4497104d838d566d894564bc19e09d8af706c3f⟩ := by
  decide +kernel
/-- 45_pairing.md R306: NONCANONICAL in the last slot of the G2 point. -/
theorem test_miller_noncanonical_point : shows (ran [(5, 0x1a0111ea397fe69a4b1ba7b6434bacd764774b84f38512bf6730d2a0f6b0f6241eabfffeb153ffffb9feffffffffaaab)] [] 0x0000000002003282)
    [(50, 0)] 0x304 0x2003282 0 = true := by
  decide +kernel

/-! ### Host accesses (95_test_vectors.md, V-HA) -/

/-- The state after the accesses, one step each. -/
def after (s : State) (xs : List Access) : Option State :=
  match xs with
  | [] => some s
  | x :: xs =>
    match step { s with pending := [x] } with
    | .next t => after t xs
    | _ => none

theorem test_read_id : (after State.reset [.read 0x000 8]).map (·.rdata) = some 0x00000040FF010381 := by decide +kernel
theorem test_write_id_is_ignored : (after State.reset [.write 0x000 8 0, .read 0x000 8]).map (fun t => (t.rdata, t.err)) =
    some (0x00000040FF010381, false) := by decide +kernel
theorem test_narrow_read : (after State.reset [.read 0x010 4]).map (fun t => (t.rdata, t.statusWord, t.errinfo)) =
    some (0, 0x0000000000000904, 0x10) := by decide +kernel
theorem test_misaligned_write_while_err :
    (after State.reset [.read 0x010 4, .write 0x1004 8 0xFFFF]).map (fun t => (t.slot 0, t.errcode, t.errinfo)) =
    some (0, 9, 0x10) := by decide +kernel
theorem test_clearing : (after State.reset [.read 0x010 4, .write 0x010 8 4]).map (fun t => (t.statusWord, t.errinfo)) =
    some (0, 0) := by decide +kernel
theorem test_window_write : (after State.reset [.write 0x1098 8 0x0123456789ABCDEF]).map (fun t => (t.slot 3, t.blockByte 0x1098)) =
    some (0x0123456789ABCDEF0000000000000000, 0xEF) := by decide +kernel
theorem test_command_registers_read_zero :
    (after State.reset [.read 0x018 8]).map (·.rdata) = some 0 ∧ (after State.reset [.read 0x028 8]).map (·.rdata) = some 0 := by
  decide +kernel
theorem test_full_fifo_drops :
    (after { State.reset with entropy := List.replicate 64 1 } [.write 0x028 8 2]).map (fun t => (t.entropy.length, t.err)) =
    some (64, false) := by decide +kernel
theorem test_done_interrupt :
    (match step ({ State.reset with doneIe := true }.withFetchWord 64 0) with
     | .next t => t.irq && (after t [.write 0x010 8 2]).map (fun u => (u.done, u.irq)) == some (false, false)
     | _ => false) = true := by decide +kernel
theorem test_error_interrupt_is_sticky :
    (match step ({ State.reset with errIe := true }.withFetchWord 64 0x7A) with
     | .next t => t.irq && t.statusWord == 0x104 && t.errinfo == 0x7A &&
         (after t [.write 0x018 8 0]).map (fun u => (u.done, u.irq, u.busy)) == some (false, true, false)
     | _ => false) = true := by decide +kernel
theorem test_soft_reset :
    (after { load [(0, 7)] (List.replicate 10 1) with doneIe := true, errIe := true, err := true, errcode := 5, errinfo := 0x117 }
      [.write 0x008 8 7]).map (fun t => (t.ctrlWord, t.statusWord, t.errinfo, t.entLevelWord, t.irq, t.slot 0)) =
    some (0, 0, 0, 0, false, 7) := by decide +kernel
theorem test_reads_are_answered_while_busy :
    (match step { State.reset with inflight := some 0, wait := 3, pending := [.write 0x1000 8 5, .read 0x010 8] } with
     | .next t => t.rdata == 1 && t.pending == [.write 0x1000 8 5] && t.wait == 3
     | _ => false) = true := by decide +kernel

/-! ### Montgomery constants -/

theorem test_radixQInv : 2 ^ 384 * radixQInv % Config.q = 1 := by decide +kernel
theorem test_radixRInv : 2 ^ 256 * radixRInv % Config.r = 1 := by decide +kernel
/-- 41_field_fq_fr.md R140: m'·m is -1 modulo 2^64, and R mod m and R^2 mod m are what they say. -/
theorem test_montgomery_constants :
    (montPrimeQ.toNat * Config.q + 1) % 2 ^ 64 = 0 ∧ (montPrimeR.toNat * Config.r + 1) % 2 ^ 64 = 0 ∧
    montOneQ.toNat = 2 ^ 384 % Config.q ∧ montOneR.toNat = 2 ^ 256 % Config.r ∧
    montSquareQ.toNat = 2 ^ 768 % Config.q ∧ montSquareR.toNat = 2 ^ 512 % Config.r := by decide +kernel

/-! ### Witnesses: states and operands that meet the hypotheses of the statements, each at a boundary -/

theorem witness_DecodeOfEncodeIsTheCommand : Instr.wellFormed (.ldc 255 13) = true ∧ Instr.wellFormed .nop = true := by decide

theorem witness_DecodedWordIsTheOneEncoding : decode 0x000000FFFFFFFF5A = .ok (.fq12Exp 255 255 255 255) := rfl

theorem witness_IllegalWordsRaiseIllegalCommand :
    IllegalWord 0x0000010000000000 ∧ IllegalWord 0x000000000000007A ∧ IllegalWord 0x0000000005000112 ∧
    IllegalWord 0x0000000E00000501 ∧ ¬ IllegalWord 0x0000000D00000501 := by
  refine ⟨.inl (by decide), .inr (.inl (by decide)), .inr (.inr (.inl ⟨_, rfl, by decide⟩)), .inr (.inr (.inr (by decide))), ?_⟩
  rintro (h | h | ⟨r, hr, h⟩ | h)
  · revert h; decide
  · revert h; decide
  · cases hr
    revert h; decide
  · revert h; decide

theorem witness_StepRunsTheDecodedCommand :
    let s := State.reset.withFetchWord 64 0x0000000003020413
    s.inflight = some 0x0000000003020413 ∧ s.wait = 0 ∧ (∀ x ∈ s.pending, x.held = true) ∧
      decode 0x0000000003020413 = .ok (.fqMul 4 2 3) :=
  ⟨rfl, rfl, by decide, rfl⟩

/-- A state with a command in flight, a held and an un-held access. -/
def busyState : State :=
  { State.reset with inflight := some 0, wait := 2, pending := [.write 0x1000 8 5, .read 0x3FF8 4, .read 0x010 8] }

theorem witness_EveryStepCompletesAndKeepsTheInvariant : State.reset.Inv ∧ busyState.Inv :=
  ⟨⟨by decide, by decide, by decide, by decide, by decide, by decide, by decide⟩,
   ⟨by decide, by decide, by decide, by decide, by decide, by decide, by decide⟩⟩

theorem witness_ArrivingAccessesKeepTheInvariant :
    State.reset.Inv ∧ Config.base + 0x4000 ≤ Config.base + 0x4000 ∧ 0x3FFF < 0x4000 ∧ 1 < 2 :=
  ⟨witness_EveryStepCompletesAndKeepsTheInvariant.1, le_refl _, by decide, by decide⟩

theorem witness_SoftResetClearsAllButTheSlots : (0x7 : Word).getLsbD 2 = true := by decide

theorem witness_CtrlHoldsTheEnables : (0xFFFFFFFFFFFFFFFB : Word).getLsbD 2 = false ∧ 63 < 64 := by decide

theorem witness_EntropyWritesQueueWords :
    (load [] (List.replicate 63 1)).entropy.length < 64 ∧ 64 ≤ (load [] (List.replicate 64 1)).entropy.length ∧
    (load [] (List.replicate 64 1)).entropy.length ≤ 64 := by decide

theorem witness_SlotWindowReachesOneLimb :
    (255 < 256 ∧ 5 < 6 ∧ 0x1000 + 48 * 255 + 8 * 5 = 0x3FF8) ∧ (0x1000 ≤ 0x3FF8 ∧ 0x3FF8 < 0x4000 ∧ 0x3FF8 % 8 = 0) := by decide

theorem witness_NarrowOrMisalignedAccessRecordsAccess :
    (0x3FFF < 0x4000 ∧ 0x3FFF % 8 ≠ 0) ∧ (0x010 < 0x4000 ∧ 4 ≠ 8) ∧ State.reset.err = false ∧
    ({ State.reset with err := true } : State).err = true := by decide

theorem witness_ReadsHaveNoSideEffect : 0x3FF8 < 0x4000 ∧ 0x3FF8 % 8 = 0 ∧ 0x000 % 8 = 0 := by decide

theorem witness_ReadOnlyAndReservedOffsets : 0x030 % 8 = 0 ∧ 0x038 % 8 = 0 ∧ 0xFF8 % 8 = 0 ∧ 0xFF8 < 0x1000 := by decide

theorem witness_CommandWriteIsAcceptedOrDiscarded :
    State.reset.err = false ∧ ({ State.reset with err := true } : State).err = true := by decide

theorem witness_RunningCommandHoldsAccesses :
    busyState.inflight = some 0 ∧ (∀ x ∈ [Access.write 0x1000 8 5, Access.read 0x3FF8 4], x.held = true) ∧
    busyState.pending = [.write 0x1000 8 5, .read 0x3FF8 4] ++ .read 0x010 8 :: [] ∧ 0x010 % 8 = 0 ∧ 0x010 < 0x1000 ∧
    (let s : State := { busyState with pending := [.write 0x1000 8 5] ++ .write 0xFF8 8 7 :: [] }
     s.inflight = some 0 ∧ 0xFF8 % 8 = 0 ∧ 0xFF8 < 0x1000 ∧ 0xFF8 ∉ [0x008, 0x010, 0x018, 0x028]) ∧
    (∀ x ∈ ({ busyState with pending := [.read 0x1000 8, .write 0x028 8 1] } : State).pending, x.held = true) ∧
    busyState.wait = 1 + 1 ∧ State.reset.inflight = none ∧ State.reset.pending = [] := by
  decide +kernel

theorem witness_EveryCommandCompletesInFiniteTime : busyState.Inv ∧ busyState.busy = true :=
  ⟨witness_EveryStepCompletesAndKeepsTheInvariant.2, rfl⟩

theorem witness_OnlyTheHostClearsErr :
    (4 : Word).getLsbD 2 = true ∧
    (let s := { State.reset with err := true, errcode := 1, pending := [.write 0x010 8 4] }
     (match step s with | .next t => s.err && !t.err | _ => false) = true) := by decide +kernel

theorem witness_SlotsChangeOnlyByCompletionOrWindowWrite :
    (match step (State.reset.withFetchWord 64 0x0000000D0000FE01) with | .next t => t.slot 255 != State.reset.slot 255 | _ => false) = true ∧
    (match step { State.reset with pending := [.write 0x3FF8 8 1] } with | .next t => t.slot 255 != State.reset.slot 255 | _ => false) = true := by
  decide +kernel

theorem witness_FirstOperandErrorIsRaised :
    State.reset.operandError (.fq6Add 251 0 0) = some .slotRange ∧
    (load [(7, 0x1a0111ea397fe69a4b1ba7b6434bacd764774b84f38512bf6730d2a0f6b0f6241eabfffeb153ffffb9feffffffffaaab)] []).operandError (.fqAdd 1 0 7) = some .noncanonical ∧
    (load [(255, 0x73eda753299d7d483339d80809a1d80553bda402fffe5bfeffffffff00000001)] []).operandError (.frNeg 1 255) = some .noncanonical ∧
    (load [(4, 1), (8, 0x1a0111ea397fe69a4b1ba7b6434bacd764774b84f38512bf6730d2a0f6b0f6241eabfffeb153ffffb9feffffffffaaab)] []).operandError (.g2Add 16 0 8) = some .tInvariant := by
  decide +kernel

theorem witness_ValueChecksRaiseTheirError :
    (State.reset.Ready (.fqInv 1 0) ∧ State.reset.valueError (.fqInv 1 0) = some .divisionByZero) ∧
    (State.reset.Ready (.frInv 1 0) ∧ State.reset.valueError (.frInv 1 0) = some .divisionByZero) ∧
    (State.reset.Ready (.fq2Inv 1 0) ∧ State.reset.valueError (.fq2Inv 1 0) = some .divisionByZero) ∧
    (State.reset.Ready (.fq6Inv 1 0) ∧ State.reset.valueError (.fq6Inv 1 0) = some .divisionByZero) ∧
    (State.reset.Ready (.fq12Inv 1 0) ∧ State.reset.valueError (.fq12Inv 1 0) = some .divisionByZero) ∧
    (State.reset.Ready (.finexp 1 0) ∧ State.reset.valueError (.finexp 1 0) = some .divisionByZero) ∧
    (State.reset.Ready (.g1Toaff 1 0) ∧ State.reset.valueError (.g1Toaff 1 0) = some .divisionByZero) ∧
    (State.reset.Ready (.g2Toaff 1 0) ∧ State.reset.valueError (.g2Toaff 1 0) = some .divisionByZero) ∧
    (let s := load [(0, 0x1a0111ea397fe69a4b1ba7b6434bacd764774b84f38512bf6730d2a0f6b0f6241eabfffeb153ffffb9feffffffffaaab)] []
     s.Ready (.fqFromint 1 0) ∧ s.valueError (.fqFromint 1 0) = some .outOfBounds) ∧
    (let s := load [(0, 0x73eda753299d7d483339d80809a1d80553bda402fffe5bfeffffffff00000001)] []
     s.Ready (.frFromint 1 0) ∧ s.valueError (.frFromint 1 0) = some .outOfBounds ∧
     s.Ready (.latDecomp1 1 0) ∧ s.valueError (.latDecomp1 1 0) = some .scalarRange ∧
     s.Ready (.latDecomp2 1 0) ∧ s.valueError (.latDecomp2 1 0) = some .scalarRange ∧
     s.Ready (.g1Smulglv 10 20 0) ∧ s.valueError (.g1Smulglv 10 20 0) = some .scalarRange ∧
     s.Ready (.g2Smulgls 10 20 0) ∧ s.valueError (.g2Smulgls 10 20 0) = some .scalarRange) := by
  decide +kernel

/-- PAIR of (0, 0, 1) and (0, 0, 1), which are on no curve: the first line is 0, and so is the Miller value. -/
theorem witness_PairWithZeroMillerValue :
    let s := load [(2, 0x15f65ec3fa80e4935c071a97a256ec6d77ce5853705257455f48985753c758baebf4000bc40c0002760900000002fffd), (7, 0x15f65ec3fa80e4935c071a97a256ec6d77ce5853705257455f48985753c758baebf4000bc40c0002760900000002fffd), (9, 0x15f65ec3fa80e4935c071a97a256ec6d77ce5853705257455f48985753c758baebf4000bc40c0002760900000002fffd)] []
    s.Ready (.pair 100 0 3) ∧ s.valueError (.pair 100 0 3) = some .divisionByZero := by
  decide +kernel

theorem witness_EveryCommandCompletesUnlessACheckFails :
    Instr.wellFormed (.g2Add 248 248 248) = true ∧ State.reset.Ready (.g2Add 248 248 248) ∧
    State.reset.valueError (.g2Add 248 248 248) = none := by
  decide +kernel

theorem witness_EveryCommandKeepsWhatItDoesNotWrite : exec .nop State.reset = .next State.reset.complete := rfl

theorem witness_ErrorsWriteNothing :
    let s := State.reset.withFetchWord 64 0x0000000000000116
    s.inflight = some 0x0000000000000116 ∧ s.err = false ∧ ∃ t, runCommand 0x0000000000000116 s = .next t ∧ t.err = true := by
  refine ⟨rfl, rfl, ?_⟩
  have h : (match runCommand 0x0000000000000116 (State.reset.withFetchWord 64 0x0000000000000116) with
    | .next t => t.err | _ => false) = true := by decide +kernel
  split at h
  · rename_i t ht
    exact ⟨t, ht, h⟩
  · cases h

theorem witness_NopMovClr :
    ((0 : SlotNo).toNat + (255 : Imm).toNat ≤ 255) ∧ ((255 : SlotNo).toNat + (0 : Imm).toNat ≤ 255) ∧
    255 < (255 : SlotNo).toNat + (1 : Imm).toNat := by decide

theorem witness_LdcWritesTheRomConstants :
    (244 : SlotNo).toNat + 12 ≤ 256 ∧ (253 : SlotNo).toNat + 3 ≤ 256 ∧ (248 : SlotNo).toNat + 8 ≤ 256 ∧
    (254 : SlotNo).toNat + 2 ≤ 256 ∧ (13 : Imm).toNat ≤ 13 ∧ 256 < (255 : SlotNo).toNat + constSize 13 ∧ 13 < (14 : Imm).toNat := by
  decide

theorem witness_MontgomeryViewsRoundTrip :
    (0x1a0111ea397fe69a4b1ba7b6434bacd764774b84f38512bf6730d2a0f6b0f6241eabfffeb153ffffb9feffffffffaaaa : SlotWord).toNat < Config.q ∧ (0x73eda753299d7d483339d80809a1d80553bda402fffe5bfeffffffff00000000 : SlotWord).toNat < Config.r := by
  decide +kernel

/-- The hypotheses of the statements about ADD, SUB, NEG, MUL and SQR of Fq and Fr on slot words. -/
theorem witness_FieldAddSubNegOnSlotWords :
    (load [(255, 0x1a0111ea397fe69a4b1ba7b6434bacd764774b84f38512bf6730d2a0f6b0f6241eabfffeb153ffffb9feffffffffaaaa)] []).canonFq 255 ∧ State.reset.canonFq 0 ∧ (load [(255, 0x73eda753299d7d483339d80809a1d80553bda402fffe5bfeffffffff00000000)] []).canonFr 255 ∧ State.reset.canonFr 0 ∧
    ¬ (load [(255, 0x1a0111ea397fe69a4b1ba7b6434bacd764774b84f38512bf6730d2a0f6b0f6241eabfffeb153ffffb9feffffffffaaab)] []).canonFq 255 ∧ ¬ (load [(255, 0x73eda753299d7d483339d80809a1d80553bda402fffe5bfeffffffff00000001)] []).canonFr 255 := by
  decide +kernel

theorem witness_FieldExpIsTheExactPower :
    ((213 : SlotNo).toNat + ((255 : Imm).toNat + 5) / 6 ≤ 256) ∧ (load [(255, 0x1a0111ea397fe69a4b1ba7b6434bacd764774b84f38512bf6730d2a0f6b0f6241eabfffeb153ffffb9feffffffffaaaa)] []).canonFq 255 ∧
    (load [(255, 0x73eda753299d7d483339d80809a1d80553bda402fffe5bfeffffffff00000000)] []).canonFr 255 ∧ ¬ (load [(255, 0x1a0111ea397fe69a4b1ba7b6434bacd764774b84f38512bf6730d2a0f6b0f6241eabfffeb153ffffb9feffffffffaaab)] []).canonFq 255 ∧ ¬ (load [(255, 0x73eda753299d7d483339d80809a1d80553bda402fffe5bfeffffffff00000001)] []).canonFr 255 ∧
    ((255 : Imm) ≠ 0 ∧ 256 < (214 : SlotNo).toNat + ((255 : Imm).toNat + 5) / 6) := by
  decide +kernel

theorem witness_FieldInverseIsTheFermatPower :
    (load [(0, 1)] []).canonFq 0 ∧ (load [(0, 1)] []).canonFr 0 ∧ (load [(0, 1)] []).slot 0 ≠ 0 ∧ State.reset.slot 0 = 0 ∧
    ¬ (load [(255, 0x1a0111ea397fe69a4b1ba7b6434bacd764774b84f38512bf6730d2a0f6b0f6241eabfffeb153ffffb9feffffffffaaab)] []).canonFq 255 ∧ ¬ (load [(255, 0x73eda753299d7d483339d80809a1d80553bda402fffe5bfeffffffff00000001)] []).canonFr 255 := by
  decide +kernel

theorem witness_IntegerConversions :
    ((load [(0, 0x1a0111ea397fe69a4b1ba7b6434bacd764774b84f38512bf6730d2a0f6b0f6241eabfffeb153ffffb9feffffffffaaaa)] []).slot 0).toNat < Config.q ∧ Config.q ≤ ((load [(0, 0x1a0111ea397fe69a4b1ba7b6434bacd764774b84f38512bf6730d2a0f6b0f6241eabfffeb153ffffb9feffffffffaaab)] []).slot 0).toNat ∧
    ((load [(0, 0x73eda753299d7d483339d80809a1d80553bda402fffe5bfeffffffff00000000)] []).slot 0).toNat < Config.r ∧ Config.r ≤ ((load [(0, 0x73eda753299d7d483339d80809a1d80553bda402fffe5bfeffffffff00000001)] []).slot 0).toNat ∧
    ¬ (load [(0, 0x1a0111ea397fe69a4b1ba7b6434bacd764774b84f38512bf6730d2a0f6b0f6241eabfffeb153ffffb9feffffffffaaab)] []).canonFq 0 ∧ ¬ (load [(0, 0x73eda753299d7d483339d80809a1d80553bda402fffe5bfeffffffff00000001)] []).canonFr 0 := by
  decide +kernel

/-- The round trips of the conversions run: FROMINT and then TOINT, both for Fq and for Fr. -/
theorem witness_IntegerConversionsRunOneAfterTheOther :
    (∃ t t', exec (.fqFromint 1 0) State.reset = .next t ∧ exec (.fqToint 2 1) t = .next t') ∧
    ∃ t t', exec (.frFromint 1 0) State.reset = .next t ∧ exec (.frToint 2 1) t = .next t' := by
  have key : ∀ i j : Instr, (match exec i State.reset with
      | .next t => (match exec j t with | .next _ => true | _ => false)
      | _ => false) = true → ∃ t t', exec i State.reset = .next t ∧ exec j t = .next t' := by
    intro i j h
    split at h
    · rename_i t ht
      split at h
      · rename_i t' ht'
        exact ⟨t, t', ht, ht'⟩
      · cases h
    · cases h
  exact ⟨key _ _ (by decide +kernel), key _ _ (by decide +kernel)⟩

theorem witness_FieldEqualityIsSlotEquality :
    State.reset.Ready (.fq2Eq 254 254) ∧ State.reset.Ready (.fq6Eq 250 250) ∧ State.reset.Ready (.fq12Eq 244 244) ∧
    State.reset.operandError (.fq2Eq 255 0) = some .slotRange ∧ State.reset.operandError (.fq6Eq 0 251) = some .slotRange ∧
    (load [(11, 0x1a0111ea397fe69a4b1ba7b6434bacd764774b84f38512bf6730d2a0f6b0f6241eabfffeb153ffffb9feffffffffaaab)] []).operandError (.fq12Eq 0 0) = some .noncanonical := by
  decide +kernel

theorem witness_RandStoresTheFirstAcceptedDraw :
    (let e := (load [] [0, 0, 0, 0, 0, 0, 5, 0, 0, 0, 0, 0]).entropy
     6 * (1 + 1) ≤ e.length ∧ fqDraw e 1 ≠ 0 ∧ fqDraw e 1 < Config.q ∧ ∀ j < 1, fqDraw e j = 0) ∧
    (let e := (load [] [0xFFFFFFFFFFFFFFFF, 0xFFFFFFFFFFFFFFFF, 0xFFFFFFFFFFFFFFFF, 0xFFFFFFFFFFFFFFFF, 7, 0, 0, 0]).entropy
     4 * (1 + 1) ≤ e.length ∧ frDraw e 1 ≠ 0 ∧ frDraw e 1 < Config.r ∧ ∀ j < 1, Config.r ≤ frDraw e j) ∧
    (∀ k < (load [] (List.replicate 11 0)).entropy.length / 6, fqDraw (load [] (List.replicate 11 0)).entropy k = 0) ∧
    (∀ k < (load [] (List.replicate 7 0)).entropy.length / 4, frDraw (load [] (List.replicate 7 0)).entropy k = 0) := by
  decide +kernel

theorem witness_TowerLinearCommandsWorkSlotBySlot :
    State.reset.Ready (.fq2Add 254 254 254) ∧ State.reset.Ready (.fq6Add 250 250 250) ∧ State.reset.Ready (.fq12Add 244 244 244) ∧
    State.reset.Ready (.fq2Sub 254 254 254) ∧ State.reset.Ready (.fq6Sub 250 250 250) ∧ State.reset.Ready (.fq12Sub 244 244 244) ∧
    State.reset.Ready (.fq2Neg 254 254) ∧ State.reset.Ready (.fq6Neg 250 250) ∧ State.reset.Ready (.fq12Neg 244 244) ∧
    State.reset.Ready (.fq2Conj 254 254) ∧ State.reset.Ready (.fq12Conj 244 244) := by
  decide +kernel

theorem witness_Fq2AndFq6Products :
    State.reset.Ready (.fq2Mul 254 254 254) ∧ State.reset.Ready (.fq2Sqr 254 254) ∧ State.reset.Ready (.fq2Mulxi 254 254) ∧
    State.reset.Ready (.fq6Mul 250 250 250) ∧ State.reset.Ready (.fq6Sqr 250 250) ∧ State.reset.Ready (.fq6Spmul01 250 250 252) ∧
    State.reset.Ready (.fq6Mulnr 250 250) := by
  decide +kernel

theorem witness_Fq12ProductsReduceByWToTheSixth :
    State.reset.Ready (.fq12Mul 244 244 244) ∧ State.reset.Ready (.fq12Sqr 244 244) ∧ State.reset.Ready (.fq12Spmul014 244 244 250) := by
  decide +kernel

theorem witness_TowerInversions :
    let s := load [(255, 1)] []
    s.Ready (.fq2Inv 254 254) ∧ s.fq2At 254 ≠ Fq2.zero ∧ s.Ready (.fq6Inv 250 250) ∧ s.fq6At 250 ≠ Fq6.zero ∧
    s.Ready (.fq12Inv 244 244) ∧ s.fq12At 244 ≠ Fq12.zero := by
  decide +kernel

theorem witness_Fq12ExpIsTheRepeatedProduct : State.reset.Ready (.fq12Exp 244 244 213 255) := by decide +kernel

theorem witness_FrobeniusCommands :
    State.reset.Ready (.fq2Frob 254 254 255) ∧ State.reset.Ready (.fq6Frob 250 250 255) ∧ State.reset.Ready (.fq12Frob 244 244 255) := by
  decide +kernel

/-- The generators G at s0 and Q at s3, both affine. -/
def generators : State := load [(0, 0x120177419e0bfb75edce6ecc21dbf440f0ae6acdf3d0e747154f95c7143ba1c17817fc679976fff55cb38790fd530c16), (1, 0xbbc3efc5008a26a0e1c8c3fad0059c051ac582950405194dd595f13570725ce8c22631a7918fd8ebaac93d50ce72271), (2, 0x15f65ec3fa80e4935c071a97a256ec6d77ce5853705257455f48985753c758baebf4000bc40c0002760900000002fffd), (3, 0x58191924350bcd76f67b7631863366b9894999d1a3caee9a1a893b53e2ae580b3f5fb2687b4961af5f28fa202940a10), (4, 0x11922a097360edf3c2b6ed0ef21585471b1ab6cc8541b3673bb17e18e2867806aaa0c59dbccd60c3a5a9c0759e23f606), (5, 0x83fd8e7e80dae507d3a975f0ef25a2bbefb5e96e0d495fe7e6856caa0a635a597cfa1f5e369c5a4c730af860494c4a), (6, 0xb2bc2a163de1bf2e7175850a43ccaed79495c4ec93da33a86adac6a3be4eba018aa270a2b1461dcadc0fc92df64b05d), (7, 0x15f65ec3fa80e4935c071a97a256ec6d77ce5853705257455f48985753c758baebf4000bc40c0002760900000002fffd), (8, 0), (9, 0x15f65ec3fa80e4935c071a97a256ec6d77ce5853705257455f48985753c758baebf4000bc40c0002760900000002fffd), (10, 0)] []

theorem witness_G1CommandsWriteTheirPoint :
    generators.Ready (.g1Add 253 0 0) ∧ generators.Ready (.g1Dbl 253 0) ∧ generators.Ready (.g1Neg 253 0) ∧
    generators.Ready (.g1Smul 253 0 255) ∧ generators.Ready (.g1Smulglv 253 0 255) ∧ (generators.slot 255).toNat < Config.r ∧
    generators.Ready (.g1Toaff 253 0) ∧ (generators.g1At 0).z = 1 ∧
    (let s := load [(2, 0x40ab3263eff0206ef148d1ea0f4c069eca8f3318332bb7a07e83a49a2e99d6932b7fff2ed47fffd43f5fffffffcaaae)] []
     s.Ready (.g1Toaff 253 0) ∧ (s.g1At 0).z ≠ 1 ∧ (s.g1At 0).z ≠ 0) ∧
    generators.Ready (.g1Endo 253 0) ∧ generators.Ready (.g1Fromaff 253 0) ∧ generators.Ready (.g1Ident 253) := by
  decide +kernel

theorem witness_G2CommandsWriteTheirPoint :
    generators.Ready (.g2Add 248 3 3) ∧ generators.Ready (.g2Dbl 248 3) ∧ generators.Ready (.g2Neg 248 3) ∧
    generators.Ready (.g2Smul 248 3 255) ∧ generators.Ready (.g2Smulgls 248 3 255) ∧ (generators.slot 255).toNat < Config.r ∧
    generators.Ready (.g2Toaff 248 3) ∧ (generators.g2At 3).z = Fq2.one ∧
    (let s := load [(4, 0x40ab3263eff0206ef148d1ea0f4c069eca8f3318332bb7a07e83a49a2e99d6932b7fff2ed47fffd43f5fffffffcaaae), (6, 0x15f65ec3fa80e4935c071a97a256ec6d77ce5853705257455f48985753c758baebf4000bc40c0002760900000002fffd)] []
     s.Ready (.g2Toaff 248 0) ∧ (s.g2At 0).z ≠ Fq2.one ∧ (s.g2At 0).z ≠ Fq2.zero) ∧
    generators.Ready (.g2Psi 248 3) ∧ generators.Ready (.g2Fromaff 248 3) ∧ generators.Ready (.g2Ident 248) := by
  decide +kernel

theorem witness_PointEqualityIsCrossMultiplication :
    generators.Ready (.g1Eq 0 0) ∧ (generators.g1At 0).z ≠ 0 ∧ State.reset.Ready (.g1Eq 253 253) ∧ (State.reset.g1At 253).z = 0 ∧
    generators.Ready (.g2Eq 3 3) ∧ (generators.g2At 3).z ≠ Fq2.zero ∧ State.reset.Ready (.g2Eq 248 248) ∧
    (State.reset.g2At 248).z = Fq2.zero ∧ (2 : Fq) * (generators.g1At 0).z ≠ 0 ∧ xi.mul (generators.g2At 3).z ≠ Fq2.zero := by
  decide +kernel

theorem witness_G1CommandsKeepTheCurve :
    g1OnCurve (generators.g1At 0) ∧ g1OnCurve ⟨generators.fqAt 0, generators.fqAt 1, 1⟩ ∧ generators.Ready (.g1Add 253 0 0) ∧
    generators.Ready (.g1Smul 253 0 255) ∧ generators.Ready (.g1Dbl 253 0) ∧ generators.Ready (.g1Fromaff 253 0) := by
  unfold g1OnCurve
  decide +kernel

theorem witness_G2CommandsKeepTheCurve :
    g2OnCurve (generators.g2At 3) ∧ g2OnCurve ⟨generators.fq2At 3, generators.fq2At 5, Fq2.one⟩ ∧ generators.Ready (.g2Add 248 3 3) ∧
    generators.Ready (.g2Smul 248 3 255) ∧ generators.Ready (.g2Dbl 248 3) ∧ generators.Ready (.g2Fromaff 248 3) := by
  unfold g2OnCurve
  decide +kernel

theorem witness_PointFunctionLaws :
    g1Ident.z = 0 ∧ g1Gen.z ≠ 0 ∧ g2Ident.z = Fq2.zero ∧ g2Gen.z ≠ Fq2.zero ∧
    g1PEq g1Gen ⟨4 * g1Gen.x, 8 * g1Gen.y, 2⟩ = true ∧ -twice (twice (g1Gen.y * (g1Gen.z * g1Gen.z * g1Gen.z))) ≠ 0 ∧
    (let P : G1 := ⟨1, 0, 1⟩
     P.z ≠ 0 ∧ -twice (twice (P.y * (P.z * P.z * P.z))) = 0) ∧
    (1 * g1Gen.z = 1 ∧ g1PEq (g1Neg g1Gen) (g1Neg g1Gen) = true) ∧
    g2PEq g2Gen ⟨g2Gen.x.scale 4, g2Gen.y.scale 8, ⟨2, 0⟩⟩ = true ∧
    ((g2Gen.y.mul ((g2Gen.z.mul g2Gen.z).mul g2Gen.z)).scale 4).neg ≠ Fq2.zero ∧
    (let P : G2 := ⟨Fq2.one, Fq2.zero, Fq2.one⟩
     P.z ≠ Fq2.zero ∧ ((P.y.mul ((P.z.mul P.z).mul P.z)).scale 4).neg = Fq2.zero) ∧
    (Fq2.one.mul g2Gen.z = Fq2.one ∧ g2PEq (g2Neg g2Gen) (g2Neg g2Gen) = true) := by
  decide +kernel

theorem witness_DecompositionReconstructsWithinBounds : Config.r - 1 < Config.r ∧ 0 < Config.r := by decide +kernel

theorem witness_LatticeCommandsWriteTheCoefficients :
    (254 : SlotNo).toNat + 2 ≤ 256 ∧ (252 : SlotNo).toNat + 4 ≤ 256 ∧ ((load [(0, 0x73eda753299d7d483339d80809a1d80553bda402fffe5bfeffffffff00000000)] []).slot 0).toNat < Config.r ∧
    ((load [(0, 0x73eda753299d7d483339d80809a1d80553bda402fffe5bfeffffffff00000000)] []).slot 0).toNat = Config.r - 1 ∧
    Config.r ≤ ((load [(0, 0x73eda753299d7d483339d80809a1d80553bda402fffe5bfeffffffff00000001)] []).slot 0).toNat ∧ 256 < (255 : SlotNo).toNat + 2 ∧ 256 < (253 : SlotNo).toNat + 4 := by
  decide +kernel

theorem witness_LineStepCommands :
    generators.Ready (.linedbl 242 3 0) ∧ generators.Ready (.lineadd 242 3 3) ∧ (g2Dbl g2Gen).z ≠ Fq2.zero ∧
    g2PEq (g2Dbl g2Gen) ⟨g2Gen.x, g2Gen.y, Fq2.one⟩ = false := by
  decide +kernel

theorem witness_PairingCommands :
    generators.Ready (.miller 244 0 3) ∧ generators.Ready (.pair 244 0 3) ∧ State.reset.Ready (.pair 244 0 3) ∧
    (State.reset.g1At 0).z = 0 ∧ (generators.g1At 0).z ≠ 0 ∧ (generators.g2At 3).z ≠ Fq2.zero ∧
    (load [(255, 1)] []).Ready (.finexp 244 244) ∧ (load [(255, 1)] []).fq12At 244 ≠ Fq12.zero ∧
    State.reset.Ready (.finexp 244 244) ∧ State.reset.fq12At 244 = Fq12.zero := by
  decide +kernel

/-- The Miller value of the generators is not 0: its first coefficient is the spec's. -/
theorem witness_PairingCommandsNonZeroMillerValue : pairMiller (generators.g1At 0) (generators.g2At 3) ≠ Fq12.zero := by
  have h1 : generators.g1At 0 = g1Gen ∧ generators.g2At 3 = g2Gen := by decide +kernel
  have h2 : g1Aff g1Gen = (g1Gen.x, g1Gen.y) ∧ g2Aff g2Gen = (g2Gen.x, g2Gen.y) := by decide +kernel
  rw [h1.1, h1.2, pairMiller, h2.1, h2.2]
  intro h
  have h3 := test_miller_value
  rw [h] at h3
  revert h3
  decide +kernel

theorem witness_FieldMulSqrAreMontgomeryProducts :
    (load [(255, 0x1a0111ea397fe69a4b1ba7b6434bacd764774b84f38512bf6730d2a0f6b0f6241eabfffeb153ffffb9feffffffffaaaa)] []).canonFq 255 ∧ (load [(255, 0x73eda753299d7d483339d80809a1d80553bda402fffe5bfeffffffff00000000)] []).canonFr 255 ∧ ¬ (load [(255, 0x1a0111ea397fe69a4b1ba7b6434bacd764774b84f38512bf6730d2a0f6b0f6241eabfffeb153ffffb9feffffffffaaab)] []).canonFq 255 ∧
    ¬ (load [(255, 0x73eda753299d7d483339d80809a1d80553bda402fffe5bfeffffffff00000001)] []).canonFr 255 := by
  decide +kernel

theorem witness_BlockBytesAreLittleEndian : 255 < 256 ∧ 47 < 48 ∧ 0x3FF8 % 8 = 0 ∧ 7 < 8 := by decide

theorem witness_StatusReadsFieldsAndClearsByOnes : 15 < 64 ∧ 63 < 64 := by decide

theorem witness_ScalarMultiplicationDoublesAndAdds :
    1 > 0 ∧ (∀ p ∈ [(g1Gen, 0), (endo g1Gen, 0)], p.2 = 0) ∧ (∀ p ∈ [(g2Gen, 0), (psi g2Gen, 0)], p.2 = 0) := by simp

end Sys2Proof.Tests
end

/-! SUPPORT. What a command word's row says of its destination and sources, and how the run of words that a command computes
ends up in the slots. -/

namespace Sys2Proof

/-- The OP field of an encoded word (30_encoding.md R90). -/
theorem op_encodeWord (op : BitVec 8) (d a b : SlotNo) (imm : Imm) : (encodeWord op d a b imm).extractLsb' 0 8 = op :=
  congrArg Fields.op (unpack_encodeWord op d a b imm)

section row
variable {i : Instr} {op : BitVec 8} {d a b : SlotNo} {imm : Imm} {r : Form}

/-- A command writes slots exactly when the row of its opcode uses D. -/
theorem Instr.writesSlots_of_row (he : encode i = encodeWord op d a b imm) (hr : formOf op.toNat = some r) :
    i.writesSlots = r.usesD := by
  rw [Instr.writesSlots, he, op_encodeWord, hr]

theorem Instr.dest_of_usesD (he : encode i = encodeWord op d a b imm) (hr : formOf op.toNat = some r) (hd : r.usesD = true) :
    i.dest = i.operands.take 1 := by
  rw [Instr.dest, Instr.writesSlots_of_row he hr, hd, if_pos rfl]

theorem Instr.sources_of_usesD (he : encode i = encodeWord op d a b imm) (hr : formOf op.toNat = some r) (hd : r.usesD = true) :
    i.sources = i.operands.drop 1 := by
  rw [Instr.sources, Instr.writesSlots_of_row he hr, hd, if_pos rfl]

end row

end Sys2Proof

namespace Sys2Proof.Machine

/-! ### The number of words a command computes -/

/-- If the command computes words, there are `n` of them. -/
def Sized (n : Nat) (res : Result (List SlotWord)) : Prop := ∀ ws, res = .ok ws → ws.length = n

section sized
variable {α : Type} {n : Nat}

@[simp] theorem sized_ok (ws : List SlotWord) : Sized n (.ok ws) ↔ ws.length = n :=
  ⟨fun h => h ws rfl, fun h _ e => Except.ok.inj e ▸ h⟩

@[simp] theorem sized_pure (ws : List SlotWord) : Sized n (pure ws) ↔ ws.length = n := sized_ok ws

@[simp] theorem sized_error (c : ErrCode) : Sized n (.error c) := fun _ e => nomatch e

@[simp] theorem sized_throw (c : ErrCode) : Sized n (throw c) := sized_error c

/-- A check or read that comes first does not change how many words the rest computes. -/
@[simp] theorem sized_bind (r : Result α) (f : α → Result (List SlotWord)) :
    Sized n (r >>= f) ↔ ∀ a, r = .ok a → Sized n (f a) := by
  cases r <;> simp

@[simp] theorem sized_map (r : Result α) (f : α → List SlotWord) :
    Sized n (f <$> r) ↔ ∀ a, r = .ok a → (f a).length = n := by
  cases r with
  | ok a => exact (sized_ok (f a)).trans (by simp)
  | error c => exact iff_of_true (sized_error c) (by simp)

@[simp] theorem sized_ite (p : Prop) [Decidable p] (x y : Result (List SlotWord)) :
    Sized n (if p then x else y) ↔ (p → Sized n x) ∧ (¬ p → Sized n y) := by
  by_cases h : p <;> simp [h]

end sized

@[simp] theorem fqWords_length (x : Fq) : (fqWords x).length = 1 := rfl
@[simp] theorem frWords_length (x : Fr) : (frWords x).length = 1 := rfl
@[simp] theorem fq2Words_length (x : Fq2) : (fq2Words x).length = 2 := rfl
@[simp] theorem fq6Words_length (x : Fq6) : (fq6Words x).length = 6 := rfl
@[simp] theorem fq12Words_length (x : Fq12) : (fq12Words x).length = 12 := rfl
@[simp] theorem g1Words_length (P : G1) : (g1Words P).length = 3 := rfl
@[simp] theorem g2Words_length (P : G2) : (g2Words P).length = 8 := rfl
@[simp] theorem uWords_length (n : Nat) : (uWords n).length = 1 := rfl
@[simp] theorem ldWords_length (p : G2 × Line) : (ldWords p).length = 14 := rfl

@[simp] theorem decompose1_words_length (n : Nat) : (sWords (decompose1 n)).length = 2 := rfl
@[simp] theorem decompose2_words_length (n : Nat) : (sWords (decompose2 n)).length = 4 := rfl

/-- The size of a ROM constant depends on the value of its number. -/
theorem constSize_of_toNat {imm : Imm} {k : Nat} (h : imm.toNat = k) : constSize (BitVec.ofNat 8 k) = constSize imm := by
  rw [← h, BitVec.ofNat_toNat, BitVec.setWidth_eq]

/-- The words of a ROM constant fill the slots its number names (40_control.md R131). -/
theorem romWords_length (imm : Imm) (ws : List SlotWord) (h : romWords imm = some ws) : ws.length = constSize imm := by
  unfold romWords at h
  split at h <;> rename_i himm <;> cases h
  all_goals exact Eq.trans rfl (constSize_of_toNat himm)

/-! ### How every command ends -/

/-- How the command `i` ends from `s`: with words that fill its destination, or with such words and popped entropy, or with EQ, or
with an error, or with nothing but the completion. -/
inductive EndsAs (i : Instr) (s : State) : Outcome → Prop
  | slots {d : SlotNo} {k : Kind} {res : Result (List SlotWord)} (hdest : i.dest = [(d, k)])
      (hlen : Sized (k.size i.immField) res) : EndsAs i s (s.finishSlots d res)
  | draw {d : SlotNo} {k : Kind} {res : Result (List SlotWord)} (rest : List Word) (hdest : i.dest = [(d, k)])
      (hlen : Sized (k.size i.immField) res) : EndsAs i s (s.finishDraw d res rest)
  | eq (res : Result Bool) : EndsAs i s (s.finishEq res)
  | error (c : ErrCode) : EndsAs i s (.next (s.raise c))
  | complete : EndsAs i s (.next s.complete)

/-- A sampling command makes its range check before it draws (41_field_fq_fr.md R155, R168). -/
theorem endsAs_draw {i : Instr} {s : State} {d : SlotNo} {k : Kind} {res : Result (List SlotWord)} (check : Result Unit)
    (rest : List Word) (hdest : i.dest = [(d, k)]) (hlen : Sized (k.size i.immField) res) :
    EndsAs i s (match check with
      | .error c => .next (s.raise c)
      | .ok () => s.finishDraw d res rest) := by
  cases check with
  | error c => exact .error c
  | ok _ => exact .draw rest hdest hlen

/-- LDC writes as many words as its constant has slots. -/
theorem execLdc_endsAs (d : SlotNo) (imm : Imm) (s : State) : EndsAs (.ldc d imm) s (exec (.ldc d imm) s) := by
  refine .slots (d := d) (k := .const) (Instr.dest_of_usesD rfl rfl rfl) ?_
  cases h : romWords imm with
  | none => exact sized_error _
  | some ws => simp [romWords_length imm ws h, Instr.immField, Kind.size]

/-- Every command ends in one of these ways: the commands with a run of IMM + 1 slots and LDC take their size from IMM, the
samplers pop the FIFO, the equality commands write EQ, and all others write a run whose length their kind fixes. -/
theorem exec_endsAs (i : Instr) (s : State) : EndsAs i s (exec i s) := by
  cases i with
  | nop => exact .complete
  | ldc d imm => exact execLdc_endsAs d imm s
  | mov | clr => exact .slots (Instr.dest_of_usesD rfl rfl rfl) (by simp [Kind.size, Instr.immField])
  | fqRand => exact endsAs_draw _ _ (Instr.dest_of_usesD rfl rfl rfl) ((sized_map _ _).mpr fun _ _ => fqWords_length _)
  | frRand => exact endsAs_draw _ _ (Instr.dest_of_usesD rfl rfl rfl) ((sized_map _ _).mpr fun _ _ => frWords_length _)
  | fqEq | frEq | fq2Eq | fq6Eq | fq12Eq | g1Eq | g2Eq => exact .eq _
  | fqAdd | fqSub | fqNeg | fqMul | fqSqr | fqExp | fqInv | fqFromint | fqToint
  | frAdd | frSub | frNeg | frMul | frSqr | frExp | frInv | frFromint | frToint
  | fq2Add | fq2Sub | fq2Neg | fq2Mul | fq2Sqr | fq2Inv | fq2Conj | fq2Mulxi | fq2Frob
  | fq6Add | fq6Sub | fq6Neg | fq6Mul | fq6Sqr | fq6Inv | fq6Mulnr | fq6Spmul01 | fq6Frob
  | fq12Add | fq12Sub | fq12Neg | fq12Mul | fq12Sqr | fq12Inv | fq12Conj | fq12Spmul014 | fq12Frob | fq12Exp
  | g1Add | g1Dbl | g1Neg | g1Smul | g1Smulglv | g1Toaff | g1Endo | g1Fromaff | g1Ident
  | g2Add | g2Dbl | g2Neg | g2Smul | g2Smulgls | g2Toaff | g2Psi | g2Fromaff | g2Ident
  | linedbl | lineadd | miller | finexp | pair | latDecomp1 | latDecomp2 =>
    exact .slots (Instr.dest_of_usesD rfl rfl rfl) (by simp [Kind.size])

/-! ### Which slots a command changes -/

/-- A slot outside a written run keeps its value, wherever the run lies. -/
theorem State.slot_writeRun_outside (s : State) (d n : Nat) (ws : List SlotWord) (h : n < d ∨ d + ws.length ≤ n) :
    (s.writeRun d ws).slot n = s.slot n := by
  induction ws generalizing s d with
  | nil => rfl
  | cons w ws ih =>
    rw [List.length_cons] at h
    rw [State.writeRun, ih _ _ (by omega), State.slot_setSlot_other _ _ _ _ (by omega)]

/-- A slot changes where a command ends with a run of words only if it completes and the slot is in the run. -/
theorem State.finishSlots_slot_change {s t : State} {d : SlotNo} {res : Result (List SlotWord)} {n : Nat}
    (h : s.finishSlots d res = .next t) (hne : t.slot n ≠ s.slot n) :
    t.inflight = none ∧ t.done = true ∧ ∃ ws, res = .ok ws ∧ d.toNat ≤ n ∧ n < d.toNat + ws.length := by
  cases res with
  | error c => cases h; exact absurd rfl hne
  | ok ws =>
    cases h
    refine ⟨rfl, rfl, ws, rfl, ?_⟩
    by_contra hout
    exact hne (State.slot_writeRun_outside s d.toNat n ws (by omega))

/-- A slot that a command changes is in the destination of the command, which completes (10_state.md R42; 00_scope.md R17). -/
theorem EndsAs.slot_change {i : Instr} {s t : State} {o : Outcome} {n : Nat} (h : EndsAs i s o) (ho : o = .next t)
    (hne : t.slot n ≠ s.slot n) :
    t.inflight = none ∧ t.done = true ∧ ∃ o ∈ i.dest, o.1.toNat ≤ n ∧ n < o.1.toNat + o.2.size i.immField := by
  cases h with
  | slots hdest hlen =>
    obtain ⟨hi, hd, ws, hres, hin⟩ := State.finishSlots_slot_change ho hne
    exact ⟨hi, hd, _, hdest ▸ List.mem_singleton_self _, hlen ws hres ▸ hin⟩
  | draw rest hdest hlen =>
    obtain ⟨hi, hd, ws, hres, hin⟩ := State.finishSlots_slot_change (s := { s with entropy := rest }) ho hne
    exact ⟨hi, hd, _, hdest ▸ List.mem_singleton_self _, hlen ws hres ▸ hin⟩
  | eq res => cases res <;> cases ho <;> exact absurd rfl hne
  | error c => cases ho; exact absurd rfl hne
  | complete => cases ho; exact absurd rfl hne

/-- The same for a command word: one that decodes to no command changes no slot. -/
theorem runCommand_slot_change {w : Word} {s t : State} {n : Nat} (h : runCommand w s = .next t) (hne : t.slot n ≠ s.slot n) :
    ∃ i, decode w = .ok i ∧ t.inflight = none ∧ t.done = true ∧
      ∃ o ∈ i.dest, o.1.toNat ≤ n ∧ n < o.1.toNat + o.2.size i.immField := by
  unfold runCommand at h
  split at h
  next i hi => exact ⟨i, hi, (exec_endsAs i s).slot_change h hne⟩
  next => cases h; exact absurd rfl hne

/-! ### Which slots a host access changes -/

/-- A performed write changes only the slot whose window it falls in (20_memory.md R64). -/
theorem State.busWrite_slot_change {s : State} {off n : Nat} {v : Word} (hne : (s.busWrite off v).slot n ≠ s.slot n) :
    windowBase + 48 * n ≤ off ∧ off < windowBase + 48 * n + 48 := by
  unfold State.busWrite at hne
  split at hne
  next hwin =>
    have hn : n = windowSlot off := by
      by_contra hother
      exact hne (State.slot_setSlot_other _ _ _ _ hother)
    unfold windowSlot at hn
    omega
  next =>
    refine absurd (State.slot_congr s _ ?_ n) hne
    split <;> simp

/-- An access that changes a slot is a proper write to the slot's window. -/
theorem performAccess_slot_change {x : Access} {s t : State} {n : Nat} (h : performAccess x s = .next t)
    (hne : t.slot n ≠ s.slot n) :
    ∃ off v, x = .write off 8 v ∧ windowBase + 48 * n ≤ off ∧ off < windowBase + 48 * n + 48 := by
  have hoff : x.off < Config.blockSize := by
    by_contra hout
    unfold performAccess at h
    rw [if_pos (by omega)] at h
    cases h
  obtain ⟨_, _, _, he⟩ | ⟨off, v, hx, _, he⟩ | ⟨off, _, _, _, he⟩ | ⟨off, _, _, _, _, he⟩ := performAccess_cases x s hoff <;>
    cases he.symm.trans h
  case inr.inl => exact ⟨off, v, hx, State.busWrite_slot_change hne⟩
  case inl => exact absurd rfl hne
  all_goals exact absurd (State.slot_congr _ _ (State.accessError_slots s off) n) hne

/-- An access that is performed while a command runs changes no slot: accesses to the slot window are held (20_memory.md R66). -/
theorem performAccess_unheld_slot {x : Access} {s t : State} {n : Nat} (h : performAccess x s = .next t) (hx : x.held = false) :
    t.slot n = s.slot n := by
  by_contra hne
  obtain ⟨off, v, rfl, hlow, _⟩ := performAccess_slot_change h hne
  obtain ⟨_, he, _⟩ | ⟨off', v', he, _, hbelow, _⟩ := Access.not_held _ hx
  · cases he
  · cases he
    omega

/-! ### Which slots a step changes -/

theorem busyStep_slot_change {w : Word} {s t : State} {n : Nat} (h : busyStep w s = .next t) (hne : t.slot n ≠ s.slot n) :
    s.wait = 0 ∧ runCommand w s = .next t := by
  unfold busyStep at h
  split at h
  next x rest hx =>
    obtain ⟨_, _, _, _, hheld, _⟩ := takeUnheld_some _ _ _ hx
    exact absurd (performAccess_unheld_slot h hheld) hne
  next =>
    split at h
    next hw => exact ⟨hw, h⟩
    next => cases h; exact absurd rfl hne

theorem idleStep_slot_change {s t : State} {n : Nat} (h : idleStep s = .next t) (hne : t.slot n ≠ s.slot n) :
    ∃ off v rest, s.pending = .write off 8 v :: rest ∧ windowBase + 48 * n ≤ off ∧ off < windowBase + 48 * n + 48 := by
  unfold idleStep at h
  split at h
  next => cases h; exact absurd rfl hne
  next x rest hp =>
    obtain ⟨off, v, rfl, hin⟩ := performAccess_slot_change h hne
    exact ⟨off, v, rest, hp, hin⟩

/-- Settles O24: a busy step changes slots only through the command it completes, an idle step only through a window write. -/
theorem slotsChangeOnlyByCompletionOrWindowWrite : Obligations.SlotsChangeOnlyByCompletionOrWindowWrite := by
  intro s t n h hne
  unfold step at h
  split at h
  next w hw =>
    obtain ⟨hwait, hrun⟩ := busyStep_slot_change h hne
    obtain ⟨i, hdec, hends⟩ := runCommand_slot_change hrun hne
    exact .inl ⟨w, i, hw, hwait, hdec, hends⟩
  next hidle =>
    obtain ⟨off, v, rest, hp, hin⟩ := idleStep_slot_change h hne
    exact .inr ⟨off, v, rest, hidle, hp, hin⟩

end Sys2Proof.Machine


/-! SUPPORT. A command whose operands are readable: its checks pass, its reads give the values its slots show, and the words it
writes are read back as the value they were made of. -/

namespace Sys2Proof.Machine

/-! ### What `Ready` gives -/

/-- No operand of a list has a read error exactly when none of them has one. -/
theorem State.readError_eq_none (s : State) (imm : Imm) (os : List (SlotNo × Kind)) :
    s.readError imm os = none ↔ ∀ o ∈ os, s.kindError imm o.1.toNat o.2 = none := by
  induction os with
  | nil => simp [State.readError]
  | cons o os ih =>
    rw [State.readError, List.forall_mem_cons, ← ih]
    cases s.kindError imm o.1.toNat o.2 <;> simp

theorem checkSlots_eq_ok (imm : Imm) (os : List (SlotNo × Kind)) :
    checkSlots imm os = .ok () ↔ ∀ o ∈ os, fits o.1 (o.2.size imm) = true := by
  rw [checkSlots_eq, ← List.all_eq_true]
  split <;> simp [*]

/-- A ready command that writes slots passes its range check, and each of its operands but the first, which is D, is readable. -/
theorem State.Ready.checks_pass {s : State} {i : Instr} {op : BitVec 8} {d a b : SlotNo} {imm : Imm} {r : Form} (h : s.Ready i)
    (he : encode i = encodeWord op d a b imm) (hr : formOf op.toNat = some r) (hd : r.usesD = true) :
    checkSlots i.immField i.operands = .ok () ∧ ∀ o ∈ i.operands.drop 1, s.kindError i.immField o.1.toNat o.2 = none := by
  rw [State.Ready, State.operandError] at h
  split at h
  next hslots =>
    rw [State.readError_eq_none, Instr.sources_of_usesD he hr hd] at h
    exact ⟨(checkSlots_eq_ok _ _).mpr (List.all_eq_true.mp hslots), h⟩
  next => cases h

/-- The first operand that passes the range check fits the slot file (30_encoding.md R97). -/
theorem fits_of_checkSlots {imm : Imm} {d : SlotNo} {k : Kind} {os : List (SlotNo × Kind)}
    (h : checkSlots imm ((d, k) :: os) = .ok ()) (hk : 0 < k.size imm) : d.toNat + k.size imm ≤ 256 := by
  have hfit : fits d (k.size imm) = true := (checkSlots_eq_ok _ _).mp h _ List.mem_cons_self
  simp only [fits, Bool.or_eq_true, beq_iff_eq, decide_eq_true_eq] at hfit
  omega

/-! ### Reads of readable operands -/

section reads
variable {s : State} {imm : Imm} {n : Nat}

/-- A readable operand of field values is canonical in all of its slots. -/
theorem State.allFq_of_readable {k : Kind} (h : s.kindError imm n k = none)
    (hk : k ∈ [Kind.fq, .fq2, .fq6, .fq12, .g1, .af1, .af2, .sp6, .sp12, .la]) : s.allFq n (k.size imm) = true := by
  cases k <;> simp_all [State.kindError]

theorem State.readFq12_ok (h : s.kindError imm n .fq12 = none) : s.readFq12 n = .ok (s.fq12At n) := by
  rw [State.readFq12_eq, show s.allFq n 12 = true from State.allFq_of_readable h (by simp), readAs_true]

theorem State.readSp12_ok (h : s.kindError imm n .sp12 = none) :
    s.readSp12 n = .ok (sparse014 (s.fq2At n) (s.fq2At (n + 2)) (s.fq2At (n + 4))) := by
  rw [State.readSp12_eq, show s.allFq n 6 = true from State.allFq_of_readable h (by simp), readAs_true]

theorem State.readG1_ok (h : s.kindError imm n .g1 = none) : s.readG1 n = .ok (s.g1At n) := by
  rw [State.readG1_eq, show s.allFq n 3 = true from State.allFq_of_readable h (by simp), readAs_true]

theorem State.readAff1_ok (h : s.kindError imm n .af1 = none) : s.readAff1 n = .ok (s.fqAt n, s.fqAt (n + 1)) := by
  rw [State.readAff1_eq, show s.allFq n 2 = true from State.allFq_of_readable h (by simp), readAs_true]

theorem State.readAff2_ok (h : s.kindError imm n .af2 = none) : s.readAff2 n = .ok (s.fq2At n, s.fq2At (n + 2)) := by
  rw [State.readAff2_eq, show s.allFq n 4 = true from State.allFq_of_readable h (by simp), readAs_true]

/-- A readable G2 point is canonical and meets T = Z·Z (10_state.md R26). -/
theorem State.readG2_ok (h : s.kindError imm n .g2 = none) : s.readG2 n = .ok (s.g2At n) := by
  simp only [State.kindError] at h
  split at h
  next hcanon =>
    split at h
    next ht => rw [State.readG2_eq, if_pos hcanon, decide_eq_true ht, readAs_true]
    next => cases h
  next => cases h

end reads

/-! ### Commands whose checks and reads pass -/

section bodies
variable {α β : Type} {imm : Imm} {os : List (SlotNo × Kind)} {x : α} {y : β} {ra : Result α} {rb : Result β}

theorem checked_ok (hc : checkSlots imm os = .ok ()) (ws : List SlotWord) :
    (do checkSlots imm os; return ws : Result (List SlotWord)) = .ok ws := by
  rw [hc]; rfl

theorem checked_read_ok (hc : checkSlots imm os = .ok ()) (ha : ra = .ok x) (f : α → List SlotWord) :
    (do checkSlots imm os; let x ← ra; return f x : Result (List SlotWord)) = .ok (f x) := by
  rw [hc, ha]; rfl

theorem checked_read_read_ok (hc : checkSlots imm os = .ok ()) (ha : ra = .ok x) (hb : rb = .ok y) (f : α → β → List SlotWord) :
    (do checkSlots imm os; let x ← ra; let y ← rb; return f x y : Result (List SlotWord)) = .ok (f x y) := by
  rw [hc, ha, hb]; rfl

/-- The form of the commands that refuse a scalar not below r (43_groups.md R254, R264). -/
theorem checked_read_scalar_ok {k : Nat} (hc : checkSlots imm os = .ok ()) (ha : ra = .ok x) (hk : k < Config.r)
    (f : α → List SlotWord) :
    (do
      checkSlots imm os
      let x ← ra
      if Config.r ≤ k then throw .scalarRange
      return f x : Result (List SlotWord)) = .ok (f x) := by
  rw [hc, ha, result_ok_bind, result_ok_bind, if_neg (Nat.not_le.mpr hk)]; rfl

end bodies

/-- A command that computed words which fit the slot file from `d` on writes them. -/
theorem State.writes_of_ok (s : State) {d : SlotNo} {res : Result (List SlotWord)} {ws : List SlotWord} (hres : res = .ok ws)
    (hfit : d.toNat + ws.length ≤ 256) : s.Writes (s.finishSlots d res) d ws :=
  hres ▸ State.finishSlots_ok s d ws hfit

/-! ### Written words read back -/

/-- The Montgomery radix times its inverse constant is 1 modulo q. -/
theorem radixQ_mul_radixQInv : Config.radixQ * radixQInv % Config.q = 1 := by decide +kernel

/-- A word made of a number that fits has that value. -/
theorem toNat_ofNat_of_lt {w n : Nat} (h : n < 2 ^ w) : (BitVec.ofNat w n).toNat = n := by
  rw [BitVec.toNat_ofNat, Nat.mod_eq_of_lt h]

/-- The word of an Fq value is canonical: it holds (x·R) mod q (10_state.md R22). -/
theorem toNat_fqToWord (x : Fq) : (fqToWord x).toNat = x.val * Config.radixQ % Config.q :=
  toNat_ofNat_of_lt ((Nat.mod_lt _ (Nat.succ_pos _)).trans (by decide +kernel))

/-- A stored Fq value reads back (10_state.md R22). -/
theorem fqOfWord_fqToWord (x : Fq) : fqOfWord (fqToWord x) = x := by
  apply Fin.ext
  calc (fqOfWord (fqToWord x)).val = x.val * Config.radixQ % Config.q * radixQInv % Config.q := by
        rw [fqOfWord, Fin.val_ofNat, toNat_fqToWord]
    _ = x.val * (Config.radixQ * radixQInv % Config.q) % Config.q := by
        rw [Nat.mod_mul_mod, Nat.mul_assoc, Nat.mul_mod_mod]
    _ = x.val := by rw [radixQ_mul_radixQInv, Nat.mul_one, Nat.mod_eq_of_lt x.isLt]

section writes
variable {s t : State} {d : SlotNo}

/-- A slot that was written with the word of an Fq value shows the value. -/
theorem State.SlotsFrom.fqAt {ws : List SlotWord} (h : s.SlotsFrom t d ws) (k : Nat) (x : Fq) (hk : ws[k]? = some (fqToWord x)) :
    t.fqAt (d.toNat + k) = x := by
  obtain ⟨hlt, _⟩ := List.getElem?_eq_some_iff.mp hk
  rw [State.fqAt, h.1 k hlt, List.getD_eq_getElem?_getD, hk, Option.getD_some, fqOfWord_fqToWord]

theorem State.SlotsFrom.fq2At {ws : List SlotWord} (h : s.SlotsFrom t d ws) (k : Nat) (x : Fq2)
    (h0 : ws[k]? = some (fqToWord x.c0)) (h1 : ws[k + 1]? = some (fqToWord x.c1)) : t.fq2At (d.toNat + k) = x := by
  rw [State.fq2At, h.fqAt k x.c0 h0, Nat.add_assoc, h.fqAt (k + 1) x.c1 h1]

theorem State.SlotsFrom.g1At {P : G1} (h : s.SlotsFrom t d (g1Words P)) : t.g1At d.toNat = P := by
  have hx : t.fqAt d.toNat = P.x := h.fqAt 0 P.x rfl
  rw [State.g1At, hx, h.fqAt 1 P.y rfl, h.fqAt 2 P.z rfl]

theorem State.SlotsFrom.g2At {P : G2} (h : s.SlotsFrom t d (g2Words P)) : t.g2At d.toNat = P := by
  have hx : t.fq2At d.toNat = P.x := h.fq2At 0 P.x rfl rfl
  rw [State.g2At, hx, h.fq2At 2 P.y rfl rfl, h.fq2At 4 P.z rfl rfl]

/-- A written G2 point meets T = Z·Z (10_state.md R26). -/
theorem State.SlotsFrom.g2T {P : G2} (h : s.SlotsFrom t d (g2Words P)) :
    t.fq2At (d.toNat + 6) = (t.fq2At (d.toNat + 4)).mul (t.fq2At (d.toNat + 4)) := by
  rw [h.fq2At 4 P.z rfl rfl, h.fq2At 6 (P.z.mul P.z) rfl rfl]

end writes

end Sys2Proof.Machine

/-! SUPPORT. The Jacobian point functions of 43_groups.md over any commutative ring: each keeps the curve equation
Y^2 = X^3 + b·Z^6. No inverse and no zero-divisor argument enters, so nothing rests on q being prime. -/

namespace Sys2Proof.Machine

section ring
variable {F : Type} [CommRing F]

/-- The field operations of the formulas, taken from a commutative ring and an inverse function. -/
abbrev ringOps (inv : F → F) : FieldOps F where
  add := fun x y => x + y
  sub := fun x y => x - y
  mul := fun x y => x * y
  neg := fun x => -x
  zero := 0
  one := 1
  inv := inv

/-- (X, Y, Z) meets Y^2 = X^3 + b·Z^6. -/
def JacOn (b : F) (P : Jac F) : Prop := P.y * P.y = P.x * P.x * P.x + b * (P.z * P.z * P.z * P.z * P.z * P.z)

variable {b : F} {P Q : Jac F} (inv : F → F)

theorem jacIdent_on : JacOn b (@jacIdent F (ringOps inv)) := by
  change (1 : F) * 1 = 1 * 1 * 1 + b * (0 * 0 * 0 * 0 * 0 * 0)
  ring

theorem jacNeg_on (h : JacOn b P) : JacOn b (@jacNeg F (ringOps inv) P) := by
  change -P.y * -P.y = _
  rw [neg_mul_neg]
  exact h

/-- The tangent identity: 64·Y^6 times the curve equation of P is that of its double. -/
theorem jacDbl_on (h : JacOn b P) : JacOn b (@jacDbl F (ringOps inv) P) := by
  simp only [JacOn] at h
  simp only [JacOn, jacDbl, sqr, twice, thrice]
  linear_combination 64 * P.y ^ 6 * h

/-- The chord through (u₁, s₁) and (u₂, s₂), both on Y^2 = X^3 + B: the point that add-2007-bl makes of them, with its
coordinates divided by 4, 8 and 2 and Z = H·W where B = b·W^6, is on the curve again. -/
theorem chord_identity {u₁ u₂ s₁ s₂ B : F} (h₁ : s₁ * s₁ = u₁ * u₁ * u₁ + B) (h₂ : s₂ * s₂ = u₂ * u₂ * u₂ + B) {H R X : F}
    (hH : H = u₂ - u₁) (hR : R = s₂ - s₁) (hX : X = R * R - H * H * H - 2 * u₁ * (H * H)) :
    (R * (u₁ * (H * H) - X) - s₁ * (H * H * H)) ^ 2 = X ^ 3 + B * H ^ 6 := by
  subst hX hH hR
  linear_combination
    ((u₂ - u₁) ^ 6 - ((s₂ - s₁) ^ 2 - (u₂ - u₁) ^ 3 - 3 * u₁ * (u₂ - u₁) ^ 2) * (u₂ - u₁) ^ 3) * h₁ +
      ((s₂ - s₁) ^ 2 - (u₂ - u₁) ^ 3 - 3 * u₁ * (u₂ - u₁) ^ 2) * (u₂ - u₁) ^ 3 * h₂

/-- A point scaled by another's Z: (X·W^2, Y·W^3) is on Y^2 = X^3 + b·(Z·W)^6. -/
theorem JacOn.scaled (h : JacOn b P) (w : F) :
    P.y * w * (w * w) * (P.y * w * (w * w)) =
      P.x * (w * w) * (P.x * (w * w)) * (P.x * (w * w)) + b * (P.z * w) ^ 6 := by
  simp only [JacOn] at h
  linear_combination w ^ 6 * h

variable [DecidableEq F]

theorem jacAdd_on (hP : JacOn b P) (hQ : JacOn b Q) : JacOn b (@jacAdd F (ringOps inv) _ P Q) := by
  unfold jacAdd
  split
  · exact hQ
  · split
    · exact hP
    · dsimp only
      split
      · exact jacDbl_on inv hP
      · have h₁ := hP.scaled Q.z
        have h₂ := hQ.scaled P.z
        rw [mul_comm Q.z P.z] at h₂
        have h := chord_identity h₁ h₂ rfl rfl rfl
        simp only [JacOn, sqr, twice]
        generalize P.x * (Q.z * Q.z) = u₁ at h ⊢
        generalize Q.x * (P.z * P.z) = u₂ at h ⊢
        generalize P.y * Q.z * (Q.z * Q.z) = s₁ at h ⊢
        generalize Q.y * P.z * (P.z * P.z) = s₂ at h ⊢
        linear_combination 64 * h

/-! ### Scalar multiplication: only doublings and additions -/

theorem smulLoop_on (hP : JacOn b P) (k n : Nat) {acc : Jac F} (ha : JacOn b acc) :
    JacOn b (@smulLoop F (ringOps inv) _ P k acc n) := by
  induction n generalizing acc with
  | zero => exact ha
  | succ n ih =>
    have hd := jacDbl_on inv ha
    refine ih ?_
    split
    · exact jacAdd_on inv hd hP
    · exact hd

theorem jacSmul_on (hP : JacOn b P) (k : Nat) : JacOn b (@jacSmul F (ringOps inv) _ P k) :=
  smulLoop_on inv hP k _ (jacIdent_on inv)

theorem multiAdd_on (n : Nat) {qs : List (Jac F × Nat)} (hq : ∀ p ∈ qs, JacOn b p.1) {acc : Jac F} (ha : JacOn b acc) :
    JacOn b (@multiAdd F (ringOps inv) _ n acc qs) := by
  induction qs generalizing acc with
  | nil => exact ha
  | cons p qs ih =>
    obtain ⟨hp, hq⟩ := List.forall_mem_cons.mp hq
    refine ih hq ?_
    split
    · exact jacAdd_on inv ha hp
    · exact ha

theorem multiLoop_on {qs : List (Jac F × Nat)} (hq : ∀ p ∈ qs, JacOn b p.1) (n : Nat) {acc : Jac F} (ha : JacOn b acc) :
    JacOn b (@multiLoop F (ringOps inv) _ qs acc n) := by
  induction n generalizing acc with
  | zero => exact ha
  | succ n ih => exact ih (multiAdd_on inv n hq (jacDbl_on inv ha))

theorem multiMul_on {pk : List (Jac F × Int)} (h : ∀ p ∈ pk, JacOn b p.1) : JacOn b (@multiMul F (ringOps inv) _ pk) := by
  refine multiLoop_on inv ?_ _ (jacIdent_on inv)
  intro q hq
  obtain ⟨p, hp, rfl⟩ := List.mem_map.mp hq
  dsimp only
  split
  · exact h p hp
  · exact jacNeg_on inv (h p hp)

/-- MultiMul of points zipped with any coefficients. -/
theorem multiMul_zip_on {ps : List (Jac F)} (h : ∀ p ∈ ps, JacOn b p) (ks : List Int) :
    JacOn b (@multiMul F (ringOps inv) _ (ps.zip ks)) :=
  multiMul_on inv fun p hp => h p.1 (List.of_mem_zip (a := p.1) (b := p.2) hp).1

end ring

/-! ### The rings Fq and Fq2 -/

section towers
open Fin.CommRing

/-- Fq, the integers modulo q, as a ring. -/
abbrev fqRing : CommRing Fq := Fin.instCommRing Config.q

/-- The operations of Fq in the formulas are those of its ring. -/
theorem fqOps_eq : fqOps = @ringOps Fq fqRing fqInverse := rfl

theorem Fq2.eq_iff (a b : Fq2) : a = b ↔ a.c0 = b.c0 ∧ a.c1 = b.c1 := by
  cases a; cases b; simp

theorem Fq2.add_assoc (a b c : Fq2) : (a.add b).add c = a.add (b.add c) := by
  simp only [Fq2.eq_iff, Fq2.add]; constructor <;> ring

theorem Fq2.add_comm (a b : Fq2) : a.add b = b.add a := by
  simp only [Fq2.eq_iff, Fq2.add]; constructor <;> ring

theorem Fq2.zero_add (a : Fq2) : Fq2.zero.add a = a := by
  simp only [Fq2.eq_iff, Fq2.add, Fq2.zero]; constructor <;> ring

theorem Fq2.neg_add_cancel (a : Fq2) : a.neg.add a = Fq2.zero := by
  simp only [Fq2.eq_iff, Fq2.add, Fq2.neg, Fq2.zero]; constructor <;> ring

theorem Fq2.sub_eq_add_neg (a b : Fq2) : a.sub b = a.add b.neg := by
  simp only [Fq2.eq_iff, Fq2.add, Fq2.sub, Fq2.neg]; constructor <;> ring

theorem Fq2.mul_assoc (a b c : Fq2) : (a.mul b).mul c = a.mul (b.mul c) := by
  simp only [Fq2.eq_iff, Fq2.mul]; constructor <;> ring

theorem Fq2.mul_comm (a b : Fq2) : a.mul b = b.mul a := by
  simp only [Fq2.eq_iff, Fq2.mul]; constructor <;> ring

theorem Fq2.one_mul (a : Fq2) : Fq2.one.mul a = a := by
  simp only [Fq2.eq_iff, Fq2.mul, Fq2.one]; constructor <;> ring

theorem Fq2.zero_mul (a : Fq2) : Fq2.zero.mul a = Fq2.zero := by
  simp only [Fq2.eq_iff, Fq2.mul, Fq2.zero]; constructor <;> ring

theorem Fq2.mul_add (a b c : Fq2) : a.mul (b.add c) = (a.mul b).add (a.mul c) := by
  simp only [Fq2.eq_iff, Fq2.mul, Fq2.add]; constructor <;> ring

/-- Fq2 = Fq[i]/(i^2 + 1), with the operations of 42_tower.md R190 to R193, as a ring. -/
abbrev fq2Ring : CommRing Fq2 :=
  letI : Zero Fq2 := ⟨Fq2.zero⟩
  letI : Add Fq2 := ⟨Fq2.add⟩
  letI : Neg Fq2 := ⟨Fq2.neg⟩
  { add := Fq2.add
    sub := Fq2.sub
    mul := Fq2.mul
    neg := Fq2.neg
    zero := Fq2.zero
    one := Fq2.one
    nsmul := nsmulRec
    zsmul := zsmulRec
    add_assoc := Fq2.add_assoc
    add_comm := Fq2.add_comm
    zero_add := Fq2.zero_add
    add_zero := fun a => (Fq2.add_comm a _).trans (Fq2.zero_add a)
    neg_add_cancel := Fq2.neg_add_cancel
    sub_eq_add_neg := Fq2.sub_eq_add_neg
    mul_assoc := Fq2.mul_assoc
    mul_comm := Fq2.mul_comm
    one_mul := Fq2.one_mul
    mul_one := fun a => (Fq2.mul_comm a _).trans (Fq2.one_mul a)
    zero_mul := Fq2.zero_mul
    mul_zero := fun a => (Fq2.mul_comm a _).trans (Fq2.zero_mul a)
    left_distrib := Fq2.mul_add
    right_distrib := fun a b c => by
      change (a.add b).mul c = (a.mul c).add (b.mul c)
      rw [Fq2.mul_comm, Fq2.mul_add, Fq2.mul_comm c a, Fq2.mul_comm c b] }

/-- The operations of Fq2 in the formulas are those of its ring. -/
theorem fq2Ops_eq : fq2Ops = @ringOps Fq2 fq2Ring Fq2.inverse := rfl

theorem Fq2.mulXi_eq (a : Fq2) : a.mulXi = xi.mul a := by
  simp only [Fq2.eq_iff, Fq2.mulXi, Fq2.mul, xi]; constructor <;> ring

theorem Fq2.conj_add (a b : Fq2) : (a.add b).conj = a.conj.add b.conj := by
  simp only [Fq2.eq_iff, Fq2.conj, Fq2.add, true_and]; ring

theorem Fq2.conj_mul (a b : Fq2) : (a.mul b).conj = a.conj.mul b.conj := by
  simp only [Fq2.eq_iff, Fq2.conj, Fq2.mul]; constructor <;> ring

end towers

/-! ### The points of E1 -/

/-- The curve constant 4 of E1 (00_scope.md R12). -/
def e1B : Fq := 4

theorem g1OnCurve_iff (P : G1) : g1OnCurve P ↔ @JacOn Fq fqRing e1B P := by
  let := fqRing
  have h (a : Fq) : twice (twice a) = e1B * a := by
    simp only [twice, e1B]; ring
  exact Eq.congr_right (congrArg (P.x * P.x * P.x + ·) (h _))

theorem g1Ident_on : g1OnCurve g1Ident := (g1OnCurve_iff _).mpr (@jacIdent_on Fq fqRing _ _)

theorem g1Gen_on : g1OnCurve g1Gen := by
  unfold g1OnCurve
  decide +kernel

section
variable {P Q : G1}

theorem g1Add_on (hP : g1OnCurve P) (hQ : g1OnCurve Q) : g1OnCurve (g1Add P Q) :=
  (g1OnCurve_iff _).mpr (@jacAdd_on Fq fqRing _ _ _ _ _ ((g1OnCurve_iff _).mp hP) ((g1OnCurve_iff _).mp hQ))

theorem g1Dbl_on (hP : g1OnCurve P) : g1OnCurve (g1Dbl P) :=
  (g1OnCurve_iff _).mpr (@jacDbl_on Fq fqRing _ _ _ ((g1OnCurve_iff _).mp hP))

theorem g1Neg_on (hP : g1OnCurve P) : g1OnCurve (g1Neg P) :=
  (g1OnCurve_iff _).mpr (@jacNeg_on Fq fqRing _ _ _ ((g1OnCurve_iff _).mp hP))

theorem g1SMul_on (hP : g1OnCurve P) (k : Nat) : g1OnCurve (g1SMul P k) :=
  (g1OnCurve_iff _).mpr (@jacSmul_on Fq fqRing _ _ _ _ ((g1OnCurve_iff _).mp hP) k)

theorem g1MultiMul_on {ps : List G1} (h : ∀ p ∈ ps, g1OnCurve p) (ks : List Int) : g1OnCurve (g1MultiMul (ps.zip ks)) :=
  (g1OnCurve_iff _).mpr (@multiMul_zip_on Fq fqRing _ _ _ _ (fun p hp => (g1OnCurve_iff p).mp (h p hp)) ks)

/-- Endo keeps E1 because beta^3 = 1 (43_groups.md R241). -/
theorem endo_on (hP : g1OnCurve P) : g1OnCurve (endo P) := by
  let := fqRing
  have hbeta : beta * beta * beta = 1 := by decide +kernel
  have hcube : beta * P.x * (beta * P.x) * (beta * P.x) = P.x * P.x * P.x := by
    linear_combination (P.x * P.x * P.x) * hbeta
  simp only [g1OnCurve, endo] at hP ⊢
  rw [hP, hcube]

end

/-! ### The points of E2 -/

/-- The curve constant 4·(1 + i) of E2 (00_scope.md R12). -/
def e2B : Fq2 := ⟨4, 4⟩

theorem g2OnCurve_iff (P : G2) : g2OnCurve P ↔ @JacOn Fq2 fq2Ring e2B P := by
  let := fq2Ring
  have hb : e2B = xi + xi + (xi + xi) := by decide +kernel
  have h (a : Fq2) : twice (twice a.mulXi) = e2B * a := by
    rw [hb, Fq2.mulXi_eq]
    change xi * a + xi * a + (xi * a + xi * a) = _
    ring
  exact Eq.congr_right (congrArg (P.x * P.x * P.x + ·) (h _))

theorem g2Ident_on : g2OnCurve g2Ident := (g2OnCurve_iff _).mpr (@jacIdent_on Fq2 fq2Ring _ _)

theorem g2Gen_on : g2OnCurve g2Gen := by
  unfold g2OnCurve
  decide +kernel

section
variable {P Q : G2}

theorem g2Add_on (hP : g2OnCurve P) (hQ : g2OnCurve Q) : g2OnCurve (g2Add P Q) :=
  (g2OnCurve_iff _).mpr (@jacAdd_on Fq2 fq2Ring _ _ _ _ _ ((g2OnCurve_iff _).mp hP) ((g2OnCurve_iff _).mp hQ))

theorem g2Dbl_on (hP : g2OnCurve P) : g2OnCurve (g2Dbl P) :=
  (g2OnCurve_iff _).mpr (@jacDbl_on Fq2 fq2Ring _ _ _ ((g2OnCurve_iff _).mp hP))

theorem g2Neg_on (hP : g2OnCurve P) : g2OnCurve (g2Neg P) :=
  (g2OnCurve_iff _).mpr (@jacNeg_on Fq2 fq2Ring _ _ _ ((g2OnCurve_iff _).mp hP))

theorem g2SMul_on (hP : g2OnCurve P) (k : Nat) : g2OnCurve (g2SMul P k) :=
  (g2OnCurve_iff _).mpr (@jacSmul_on Fq2 fq2Ring _ _ _ _ ((g2OnCurve_iff _).mp hP) k)

theorem g2MultiMul_on {ps : List G2} (h : ∀ p ∈ ps, g2OnCurve p) (ks : List Int) : g2OnCurve (g2MultiMul (ps.zip ks)) :=
  (g2OnCurve_iff _).mpr (@multiMul_zip_on Fq2 fq2Ring _ _ _ _ (fun p hp => (g2OnCurve_iff p).mp (h p hp)) ks)

/-- Psi keeps E2: conjugation carries E2 to the curve with constant conj(b), and scaling by cx and cy carries that one back because
cx^3 = cy^2 and cy^2·conj(b) = b (43_groups.md R241). -/
theorem psi_on (hP : g2OnCurve P) : g2OnCurve (psi P) := by
  let := fq2Ring
  have hcx : psiCx * psiCx * psiCx = psiCy * psiCy := by decide +kernel
  have hcy : psiCy * psiCy * e2B.conj = e2B := by decide +kernel
  have hadd (a b : Fq2) : (a + b).conj = a.conj + b.conj := Fq2.conj_add a b
  have hmul (a b : Fq2) : (a * b).conj = a.conj * b.conj := Fq2.conj_mul a b
  have hconj := congrArg Fq2.conj ((g2OnCurve_iff P).mp hP)
  simp only [hadd, hmul] at hconj
  refine (g2OnCurve_iff _).mpr ?_
  change P.y.conj * psiCy * (P.y.conj * psiCy) = P.x.conj * psiCx * (P.x.conj * psiCx) * (P.x.conj * psiCx) +
    e2B * (P.z.conj * P.z.conj * P.z.conj * P.z.conj * P.z.conj * P.z.conj)
  linear_combination psiCy * psiCy * hconj - P.x.conj * P.x.conj * P.x.conj * hcx +
    P.z.conj * P.z.conj * P.z.conj * P.z.conj * P.z.conj * P.z.conj * hcy

end

end Sys2Proof.Machine


/-! SUPPORT. The commands of both groups keep their curves: each command on readable operands writes the words of a point function's
value, and every point function keeps the curve equation. -/

namespace Sys2Proof.Machine

/-! ### G1 -/

/-- The command completes and the point at `d` is on E1 (00_scope.md R12). -/
def State.EndsOnE1 (s : State) (d : SlotNo) (o : Outcome) : Prop :=
  ∃ t, o = .next t ∧ s.Completed t ∧ g1OnCurve (t.g1At d.toNat)

/-- A command that writes the words of a point of E1 ends on E1. -/
theorem State.endsOnE1 {s : State} {d : SlotNo} {res : Result (List SlotWord)} {P : G1} (hfit : d.toNat + 3 ≤ 256)
    (hres : res = .ok (g1Words P)) (hP : g1OnCurve P) : s.EndsOnE1 d (s.finishSlots d res) := by
  obtain ⟨t, ho, hcompleted, hslots, _⟩ := s.writes_of_ok hres hfit
  exact ⟨t, ho, hcompleted, hslots.g1At.symm ▸ hP⟩

/-- The two G1 constants of the ROM are on E1 (40_control.md R131). -/
theorem execLdc_endsOnE1 {s : State} {d : SlotNo} {imm : Imm} {P : G1} (hfit : d.toNat + 3 ≤ 256)
    (hsize : constSize imm = 3) (hrom : romWords imm = some (g1Words P)) (hP : g1OnCurve P) :
    s.EndsOnE1 d (exec (.ldc d imm) s) := by
  have hc : checkSlots imm [(d, .const)] = .ok () := by
    simp [checkSlots_eq_ok, fits, Kind.size, hsize, hfit]
  exact State.endsOnE1 hfit (by rw [hrom]; exact checked_ok hc _) hP

section g1
variable {s : State} {d a b : SlotNo}

theorem execG1Ident_endsOnE1 (h : s.Ready (.g1Ident d)) :
    s.EndsOnE1 d (exec (.g1Ident d) s) ∧ s.EndsOnE1 d (exec (.ldc d 3) s) ∧ s.EndsOnE1 d (exec (.ldc d 5) s) := by
  obtain ⟨hc, _⟩ := h.checks_pass rfl rfl rfl
  have hfit : d.toNat + 3 ≤ 256 := fits_of_checkSlots hc (Nat.succ_pos _)
  exact ⟨State.endsOnE1 hfit (checked_ok hc _) g1Ident_on, execLdc_endsOnE1 hfit rfl rfl g1Gen_on,
    execLdc_endsOnE1 hfit rfl rfl g1Ident_on⟩

theorem execG1Fromaff_endsOnE1 (h : s.Ready (.g1Fromaff d a)) (hA : g1OnCurve ⟨s.fqAt a.toNat, s.fqAt (a.toNat + 1), 1⟩) :
    s.EndsOnE1 d (exec (.g1Fromaff d a) s) := by
  obtain ⟨hc, hr⟩ := h.checks_pass rfl rfl rfl
  have hfit : d.toNat + 3 ≤ 256 := fits_of_checkSlots hc (Nat.succ_pos _)
  exact State.endsOnE1 hfit (checked_read_ok hc (State.readAff1_ok (hr (a, .af1) (by simp [Instr.operands]))) _) hA

/-- DBL, NEG and ENDO have the same operands. -/
theorem execG1_unary_endsOnE1 (h : s.Ready (.g1Dbl d a)) (hP : g1OnCurve (s.g1At a.toNat)) :
    s.EndsOnE1 d (exec (.g1Dbl d a) s) ∧ s.EndsOnE1 d (exec (.g1Neg d a) s) ∧ s.EndsOnE1 d (exec (.g1Endo d a) s) := by
  obtain ⟨hc, hr⟩ := h.checks_pass rfl rfl rfl
  have hfit : d.toNat + 3 ≤ 256 := fits_of_checkSlots hc (Nat.succ_pos _)
  have hread := State.readG1_ok (hr (a, .g1) (by simp [Instr.operands]))
  exact ⟨State.endsOnE1 hfit (checked_read_ok hc hread _) (g1Dbl_on hP),
    State.endsOnE1 hfit (checked_read_ok hc hread _) (g1Neg_on hP),
    State.endsOnE1 hfit (checked_read_ok hc hread _) (endo_on hP)⟩

/-- SMUL and SMULGLV have the same operands; SMULGLV asks for a scalar below r. -/
theorem execG1_scalar_endsOnE1 (h : s.Ready (.g1Smul d a b)) (hP : g1OnCurve (s.g1At a.toNat)) :
    s.EndsOnE1 d (exec (.g1Smul d a b) s) ∧
      ((s.slot b.toNat).toNat < Config.r → s.EndsOnE1 d (exec (.g1Smulglv d a b) s)) := by
  obtain ⟨hc, hr⟩ := h.checks_pass rfl rfl rfl
  have hfit : d.toNat + 3 ≤ 256 := fits_of_checkSlots hc (Nat.succ_pos _)
  have hread := State.readG1_ok (hr (a, .g1) (by simp [Instr.operands]))
  exact ⟨State.endsOnE1 hfit (checked_read_ok hc hread _) (g1SMul_on hP _),
    fun hk => State.endsOnE1 hfit (checked_read_scalar_ok hc hread hk _) (g1MultiMul_on (by simp [hP, endo_on]) _)⟩

theorem execG1Add_endsOnE1 (h : s.Ready (.g1Add d a b)) (hP : g1OnCurve (s.g1At a.toNat)) (hQ : g1OnCurve (s.g1At b.toNat)) :
    s.EndsOnE1 d (exec (.g1Add d a b) s) := by
  obtain ⟨hc, hr⟩ := h.checks_pass rfl rfl rfl
  have hfit : d.toNat + 3 ≤ 256 := fits_of_checkSlots hc (Nat.succ_pos _)
  have hreadP := State.readG1_ok (hr (a, .g1) (by simp [Instr.operands]))
  have hreadQ := State.readG1_ok (hr (b, .g1) (by simp [Instr.operands]))
  exact State.endsOnE1 hfit (checked_read_read_ok hc hreadP hreadQ _) (g1Add_on hP hQ)

end g1

/-- Settles O50: each G1 command writes a value of a point function, and these keep E1. -/
theorem g1CommandsKeepTheCurve : Obligations.G1CommandsKeepTheCurve := fun _ _ _ _ =>
  ⟨execG1Ident_endsOnE1, execG1Fromaff_endsOnE1, fun hP =>
    ⟨fun h => execG1_unary_endsOnE1 h hP, fun h => execG1_scalar_endsOnE1 h hP, fun h hQ => execG1Add_endsOnE1 h hP hQ⟩⟩

/-! ### G2 -/

/-- The command completes and the point at `d` is on E2 and meets T = Z·Z (00_scope.md R12; 10_state.md R26). -/
def State.EndsOnE2 (s : State) (d : SlotNo) (o : Outcome) : Prop :=
  ∃ t, o = .next t ∧ s.Completed t ∧ g2OnCurve (t.g2At d.toNat) ∧
    t.fq2At (d.toNat + 6) = (t.fq2At (d.toNat + 4)).mul (t.fq2At (d.toNat + 4))

/-- A command that writes the words of a point of E2 ends on E2. -/
theorem State.endsOnE2 {s : State} {d : SlotNo} {res : Result (List SlotWord)} {P : G2} (hfit : d.toNat + 8 ≤ 256)
    (hres : res = .ok (g2Words P)) (hP : g2OnCurve P) : s.EndsOnE2 d (s.finishSlots d res) := by
  obtain ⟨t, ho, hcompleted, hslots, _⟩ := s.writes_of_ok hres hfit
  exact ⟨t, ho, hcompleted, hslots.g2At.symm ▸ hP, hslots.g2T⟩

/-- The two G2 constants of the ROM are on E2 (40_control.md R131). -/
theorem execLdc_endsOnE2 {s : State} {d : SlotNo} {imm : Imm} {P : G2} (hfit : d.toNat + 8 ≤ 256)
    (hsize : constSize imm = 8) (hrom : romWords imm = some (g2Words P)) (hP : g2OnCurve P) :
    s.EndsOnE2 d (exec (.ldc d imm) s) := by
  have hc : checkSlots imm [(d, .const)] = .ok () := by
    simp [checkSlots_eq_ok, fits, Kind.size, hsize, hfit]
  exact State.endsOnE2 hfit (by rw [hrom]; exact checked_ok hc _) hP

section g2
variable {s : State} {d a b : SlotNo}

theorem execG2Ident_endsOnE2 (h : s.Ready (.g2Ident d)) :
    s.EndsOnE2 d (exec (.g2Ident d) s) ∧ s.EndsOnE2 d (exec (.ldc d 4) s) ∧ s.EndsOnE2 d (exec (.ldc d 6) s) := by
  obtain ⟨hc, _⟩ := h.checks_pass rfl rfl rfl
  have hfit : d.toNat + 8 ≤ 256 := fits_of_checkSlots hc (Nat.succ_pos _)
  exact ⟨State.endsOnE2 hfit (checked_ok hc _) g2Ident_on, execLdc_endsOnE2 hfit rfl rfl g2Gen_on,
    execLdc_endsOnE2 hfit rfl rfl g2Ident_on⟩

theorem execG2Fromaff_endsOnE2 (h : s.Ready (.g2Fromaff d a))
    (hA : g2OnCurve ⟨s.fq2At a.toNat, s.fq2At (a.toNat + 2), Fq2.one⟩) : s.EndsOnE2 d (exec (.g2Fromaff d a) s) := by
  obtain ⟨hc, hr⟩ := h.checks_pass rfl rfl rfl
  have hfit : d.toNat + 8 ≤ 256 := fits_of_checkSlots hc (Nat.succ_pos _)
  exact State.endsOnE2 hfit (checked_read_ok hc (State.readAff2_ok (hr (a, .af2) (by simp [Instr.operands]))) _) hA

/-- DBL, NEG and PSI have the same operands. -/
theorem execG2_unary_endsOnE2 (h : s.Ready (.g2Dbl d a)) (hP : g2OnCurve (s.g2At a.toNat)) :
    s.EndsOnE2 d (exec (.g2Dbl d a) s) ∧ s.EndsOnE2 d (exec (.g2Neg d a) s) ∧ s.EndsOnE2 d (exec (.g2Psi d a) s) := by
  obtain ⟨hc, hr⟩ := h.checks_pass rfl rfl rfl
  have hfit : d.toNat + 8 ≤ 256 := fits_of_checkSlots hc (Nat.succ_pos _)
  have hread := State.readG2_ok (hr (a, .g2) (by simp [Instr.operands]))
  exact ⟨State.endsOnE2 hfit (checked_read_ok hc hread _) (g2Dbl_on hP),
    State.endsOnE2 hfit (checked_read_ok hc hread _) (g2Neg_on hP),
    State.endsOnE2 hfit (checked_read_ok hc hread _) (psi_on hP)⟩

/-- SMUL and SMULGLS have the same operands; SMULGLS asks for a scalar below r. -/
theorem execG2_scalar_endsOnE2 (h : s.Ready (.g2Smul d a b)) (hP : g2OnCurve (s.g2At a.toNat)) :
    s.EndsOnE2 d (exec (.g2Smul d a b) s) ∧
      ((s.slot b.toNat).toNat < Config.r → s.EndsOnE2 d (exec (.g2Smulgls d a b) s)) := by
  obtain ⟨hc, hr⟩ := h.checks_pass rfl rfl rfl
  have hfit : d.toNat + 8 ≤ 256 := fits_of_checkSlots hc (Nat.succ_pos _)
  have hread := State.readG2_ok (hr (a, .g2) (by simp [Instr.operands]))
  exact ⟨State.endsOnE2 hfit (checked_read_ok hc hread _) (g2SMul_on hP _),
    fun hk => State.endsOnE2 hfit (checked_read_scalar_ok hc hread hk _) (g2MultiMul_on (by simp [hP, psi_on]) _)⟩

theorem execG2Add_endsOnE2 (h : s.Ready (.g2Add d a b)) (hP : g2OnCurve (s.g2At a.toNat)) (hQ : g2OnCurve (s.g2At b.toNat)) :
    s.EndsOnE2 d (exec (.g2Add d a b) s) := by
  obtain ⟨hc, hr⟩ := h.checks_pass rfl rfl rfl
  have hfit : d.toNat + 8 ≤ 256 := fits_of_checkSlots hc (Nat.succ_pos _)
  have hreadP := State.readG2_ok (hr (a, .g2) (by simp [Instr.operands]))
  have hreadQ := State.readG2_ok (hr (b, .g2) (by simp [Instr.operands]))
  exact State.endsOnE2 hfit (checked_read_read_ok hc hreadP hreadQ _) (g2Add_on hP hQ)

end g2

/-- Settles O51: each G2 command writes a value of a point function with T = Z·Z, and these keep E2. -/
theorem g2CommandsKeepTheCurve : Obligations.G2CommandsKeepTheCurve := fun _ _ _ _ =>
  ⟨execG2Ident_endsOnE2, execG2Fromaff_endsOnE2, fun hP =>
    ⟨fun h => execG2_unary_endsOnE2 h hP, fun h => execG2_scalar_endsOnE2 h hP, fun h hQ => execG2Add_endsOnE2 h hP hQ⟩⟩

end Sys2Proof.Machine


/-! SUPPORT. The products of Fq12 as polynomials in w. -/

namespace Sys2Proof.Machine

/-- Multiplication in Fq6 with the ring operations of Fq2 (42_tower.md R180, R203). -/
theorem Fq6.mul_eq (a b : Fq6) :
    letI := fq2Ring
    a.mul b = ⟨a.c0 * b.c0 + xi * (a.c1 * b.c2 + a.c2 * b.c1), a.c0 * b.c1 + a.c1 * b.c0 + xi * (a.c2 * b.c2),
      a.c0 * b.c2 + a.c1 * b.c1 + a.c2 * b.c0⟩ := by
  let := fq2Ring
  have hxi (c : Fq2) : xi * c = c.mulXi := (Fq2.mulXi_eq c).symm
  rw [hxi, hxi]
  rfl

/-- Multiplication in Fq12 by w^2 = y (42_tower.md R180, R213). -/
theorem Fq12.mul_eq (x y : Fq12) :
    x.mul y = ⟨(x.c0.mul y.c0).add (x.c1.mul y.c1).mulNr, (x.c0.mul y.c1).add (x.c1.mul y.c0)⟩ := rfl

/-- `wProduct` with the ring operations of Fq2. -/
theorem wProduct_eq (x y : Fq12) (k : Nat) :
    letI := fq2Ring
    wProduct x y k = (List.range 6).foldl (fun acc i => acc +
      (if i ≤ k then x.wCoeff i * y.wCoeff (k - i) else xi * (x.wCoeff i * y.wCoeff (k + 6 - i)))) 0 := by
  let := fq2Ring
  have hxi (c : Fq2) : xi * c = c.mulXi := (Fq2.mulXi_eq c).symm
  simp only [hxi]
  rfl

/-- The product of Fq6[w]/(w^2 - y) is that of polynomials in w with w^6 = xi: in each of the six coefficients both sum the same
products, those of degree 6 and more times xi (00_scope.md R13; 42_tower.md R180). -/
theorem Fq12.wCoeff_mul (x y : Fq12) {k : Nat} (hk : k < 6) : (x.mul y).wCoeff k = wProduct x y k := by
  let := fq2Ring
  have hadd (a b : Fq2) : a.add b = a + b := rfl
  have hxi (c : Fq2) : c.mulXi = xi * c := Fq2.mulXi_eq c
  rw [wProduct_eq, Fq12.mul_eq]
  simp only [Fq6.mul_eq, Fq6.mulNr, Fq6.add, hadd, hxi, List.range_succ_eq_map, List.range_zero, List.map, List.foldl]
  interval_cases k <;> simp only [Fq12.wCoeff, Nat.reduceLeDiff, if_true, if_false, Nat.reduceSub, Nat.reduceAdd] <;> ring

section
variable {s : State} {d a b : SlotNo}

theorem execFq12Mul_writes (h : s.Ready (.fq12Mul d a b)) :
    s.Writes (exec (.fq12Mul d a b) s) d (fq12Words ((s.fq12At a.toNat).mul (s.fq12At b.toNat))) := by
  obtain ⟨hc, hr⟩ := h.checks_pass rfl rfl rfl
  have hx := State.readFq12_ok (hr (a, .fq12) (by simp [Instr.operands]))
  have hy := State.readFq12_ok (hr (b, .fq12) (by simp [Instr.operands]))
  exact s.writes_of_ok (checked_read_read_ok hc hx hy _) (fits_of_checkSlots hc (Nat.succ_pos _))

theorem execFq12Sqr_writes (h : s.Ready (.fq12Sqr d a)) :
    s.Writes (exec (.fq12Sqr d a) s) d (fq12Words ((s.fq12At a.toNat).mul (s.fq12At a.toNat))) := by
  obtain ⟨hc, hr⟩ := h.checks_pass rfl rfl rfl
  have hx := State.readFq12_ok (hr (a, .fq12) (by simp [Instr.operands]))
  exact s.writes_of_ok (checked_read_ok hc hx _) (fits_of_checkSlots hc (Nat.succ_pos _))

theorem execFq12Spmul014_writes (h : s.Ready (.fq12Spmul014 d a b)) :
    s.Writes (exec (.fq12Spmul014 d a b) s) d (fq12Words ((s.fq12At a.toNat).mul
      (sparse014 (s.fq2At b.toNat) (s.fq2At (b.toNat + 2)) (s.fq2At (b.toNat + 4))))) := by
  obtain ⟨hc, hr⟩ := h.checks_pass rfl rfl rfl
  have hx := State.readFq12_ok (hr (a, .fq12) (by simp [Instr.operands]))
  have hy := State.readSp12_ok (hr (b, .sp12) (by simp [Instr.operands]))
  exact s.writes_of_ok (checked_read_read_ok hc hx hy _) (fits_of_checkSlots hc (Nat.succ_pos _))

end

/-- Settles O42: each of the three commands writes a product of Fq12, whose coefficients of w^k are those of the polynomials. -/
theorem fq12ProductsReduceByWToTheSixth : Obligations.Fq12ProductsReduceByWToTheSixth := fun _ _ _ _ =>
  ⟨fun h => ⟨_, execFq12Mul_writes h, fun _ hk => Fq12.wCoeff_mul _ _ hk⟩,
    fun h => ⟨_, execFq12Sqr_writes h, fun _ hk => Fq12.wCoeff_mul _ _ hk⟩,
    fun h => ⟨_, execFq12Spmul014_writes h, fun _ hk => Fq12.wCoeff_mul _ _ hk⟩⟩

end Sys2Proof.Machine


/-! SUPPORT. What each register of the block reads and what a write to it does, and the statements about single registers. -/

namespace Sys2Proof.Machine

/-! ### Writes to the registers (10_state.md R30) -/

theorem State.busWrite_window (s : State) {off : Nat} (h : windowBase ≤ off) (v : Word) :
    s.busWrite off v = s.setSlot (windowSlot off) (setLimbOf (s.slot (windowSlot off)) (windowLimb off) v) := if_pos h

@[simp] theorem State.busWrite_ctrl (s : State) (v : Word) : s.busWrite 0x008 v = s.writeCtrl v := rfl
@[simp] theorem State.busWrite_status (s : State) (v : Word) : s.busWrite 0x010 v = s.writeStatus v := rfl
@[simp] theorem State.busWrite_cmd (s : State) (v : Word) : s.busWrite 0x018 v = s.accept v := rfl
@[simp] theorem State.busWrite_entropy (s : State) (v : Word) : s.busWrite 0x028 v = s.pushEntropy v := rfl

/-- An aligned 8-byte write below the slot window to none of CTRL, STATUS, CMD and ENTROPY changes nothing
(10_state.md R31, R35, R37, R38). -/
theorem State.busWrite_ignored (s : State) {off : Nat} (hoff : off < windowBase) (hregs : off ∉ [0x008, 0x010, 0x018, 0x028])
    (v : Word) : s.busWrite off v = s := by
  unfold State.busWrite
  rw [if_neg (Nat.not_le.mpr hoff)]
  split <;> simp at hregs
  rfl

/-- A write of 8 bytes to an aligned offset of the block is performed (20_memory.md R62). -/
theorem performAccess_write (s : State) {off : Nat} (hoff : off < Config.blockSize) (halign : off % 8 = 0) (v : Word) :
    performAccess (.write off 8 v) s = .next (s.busWrite off v) := by
  obtain ⟨_, he, _⟩ | ⟨_, _, he, -, h⟩ | ⟨_, _, he, _⟩ | ⟨_, _, _, he, hp, _⟩ := performAccess_cases (.write off 8 v) s hoff <;>
    cases he
  · exact h
  · simp [Access.proper, Access.width, Access.off, halign] at hp

/-- A read of 8 bytes from an aligned offset of the block is performed (20_memory.md R62). -/
theorem performAccess_read (s : State) {off : Nat} (hoff : off < Config.blockSize) (halign : off % 8 = 0) :
    performAccess (.read off 8) s = .next { s with rdata := s.busRead off } := by
  obtain ⟨_, he, -, h⟩ | ⟨_, _, he, _⟩ | ⟨_, _, he, hp, _⟩ | ⟨_, _, _, he, _⟩ := performAccess_cases (.read off 8) s hoff <;>
    cases he
  · exact h
  · simp [Access.proper, Access.width, Access.off, halign] at hp

/-- A write to a register that writes change, whose offset is a numeral. -/
theorem performAccess_register (s : State) {off : Nat} (hreg : off ∈ [0x008, 0x010, 0x018, 0x028]) (v : Word) :
    performAccess (.write off 8 v) s = .next (s.busWrite off v) := by
  simp only [List.mem_cons, List.not_mem_nil, or_false] at hreg
  exact performAccess_write s (by unfold Config.blockSize; omega) (by omega) v

/-! ### Reads of the registers (10_state.md R30) -/

@[simp] theorem State.busRead_id (s : State) : s.busRead 0x000 = idWord := rfl
@[simp] theorem State.busRead_ctrl (s : State) : s.busRead 0x008 = s.ctrlWord := rfl
@[simp] theorem State.busRead_status (s : State) : s.busRead 0x010 = s.statusWord := rfl
@[simp] theorem State.busRead_cmd (s : State) : s.busRead 0x018 = 0 := rfl
@[simp] theorem State.busRead_errinfo (s : State) : s.busRead 0x020 = s.errinfo := rfl
@[simp] theorem State.busRead_entropy (s : State) : s.busRead 0x028 = 0 := rfl
@[simp] theorem State.busRead_entLevel (s : State) : s.busRead 0x030 = s.entLevelWord := rfl

/-- The reserved offsets read 0 (10_state.md R38). -/
theorem State.busRead_reserved (s : State) {off : Nat} (hlow : 0x038 ≤ off) (hhigh : off < windowBase) : s.busRead off = 0 := by
  unfold State.busRead
  rw [if_neg (Nat.not_le.mpr hhigh)]
  split <;> try omega
  rfl

/-! ### Bits of CTRL and STATUS -/

/-- `bitAt i b` holds `b` at bit `i` and 0 elsewhere. -/
theorem bitAt_getLsbD (b : Bool) {i : Nat} (hi : i < 64) (k : Nat) : (bitAt i b).getLsbD k = (b && decide (k = i)) := by
  cases b with
  | false => simp [bitAt]
  | true =>
    rw [bitAt, if_pos rfl, BitVec.getLsbD_shiftLeft, BitVec.getLsbD_one]
    by_cases h : k = i
    · simp [h, hi]
    · simp [h]; omega

/-- CTRL's bits: DONE_IE at 0 and ERR_IE at 1 (10_state.md R32). -/
theorem State.ctrlWord_getLsbD (s : State) (k : Nat) :
    s.ctrlWord.getLsbD k = (s.doneIe && decide (k = 0) || s.errIe && decide (k = 1)) := by
  rw [State.ctrlWord, BitVec.getLsbD_or, bitAt_getLsbD _ (by decide), bitAt_getLsbD _ (by decide)]

/-- STATUS's bits: BUSY, DONE, ERR and EQ at 0 to 3, ERRCODE from 8 on (10_state.md R33). -/
theorem State.statusWord_getLsbD (s : State) {k : Nat} (hk : k < 64) :
    s.statusWord.getLsbD k = (s.busy && decide (k = 0) || s.done && decide (k = 1) || s.err && decide (k = 2) ||
      s.eq && decide (k = 3) || !decide (k < 8) && s.errcode.getLsbD (k - 8)) := by
  simp only [State.statusWord, BitVec.getLsbD_or, BitVec.getLsbD_shiftLeft, BitVec.getLsbD_setWidth,
    bitAt_getLsbD _ (show 0 < 64 by decide), bitAt_getLsbD _ (show 1 < 64 by decide), bitAt_getLsbD _ (show 2 < 64 by decide),
    bitAt_getLsbD _ (show 3 < 64 by decide)]
  simp [hk, show k - 8 < 64 by omega]

/-! ### The registers -/

/-- Settles O11: SRST = 0 keeps the write to the enables. -/
theorem ctrlHoldsTheEnables : Obligations.CtrlHoldsTheEnables := by
  intro s v
  constructor
  · intro hsrst
    rw [performAccess_register s (by simp), State.busWrite_ctrl, State.writeCtrl, hsrst]
    rfl
  · intro k _
    rw [State.busRead_ctrl, State.ctrlWord_getLsbD]
    split_ifs with h0 h1
    · simp [h0]
    · simp [h1]
    · simp [h0, h1]

/-- A STATUS write clears DONE by bit 1, and ERR with ERRCODE and ERRINFO by bit 2 (10_state.md R33). -/
theorem State.writeStatus_eq_update (s : State) (v : Word) : s.writeStatus v =
    { s with
      done := s.done && !v.getLsbD 1
      err := s.err && !v.getLsbD 2
      errcode := if v.getLsbD 2 then 0 else s.errcode
      errinfo := if v.getLsbD 2 then 0 else s.errinfo } := by
  unfold State.writeStatus
  cases v.getLsbD 1 <;> cases v.getLsbD 2 <;> simp [State.clearError]

/-- Settles O12, by the bits of STATUS. -/
theorem statusReadsFieldsAndClearsByOnes : Obligations.StatusReadsFieldsAndClearsByOnes := by
  intro s v
  constructor
  · intro k hk
    rw [State.busRead_status, State.statusWord_getLsbD s hk, State.busy]
    split_ifs with h0 h1 h2 h3 h8
    · simp [h0]
    · simp [h1]
    · simp [h2]
    · simp [h3]
    · simp [h0, h1, h2, h3, h8]
    · simp [h0, h1, h2, h3, Nat.not_lt.mp h8]
  · rw [performAccess_register s (by simp), State.busWrite_status, State.writeStatus_eq_update]

/-- Settles O13: the four bits that the host reads are the fields of which IRQ is made. -/
theorem irqIsTheLevelOfStatusAndCtrl : Obligations.IrqIsTheLevelOfStatusAndCtrl := by
  intro s
  have hdone : s.statusWord.getLsbD 1 = s.done := (s.statusWord_getLsbD (by decide)).trans (by simp)
  have herr : s.statusWord.getLsbD 2 = s.err := (s.statusWord_getLsbD (by decide)).trans (by simp)
  have hdoneIe : s.ctrlWord.getLsbD 0 = s.doneIe := (s.ctrlWord_getLsbD _).trans (by simp)
  have herrIe : s.ctrlWord.getLsbD 1 = s.errIe := (s.ctrlWord_getLsbD _).trans (by simp)
  rw [State.busRead_status, State.busRead_ctrl, hdone, herr, hdoneIe, herrIe, State.irq]

/-- ENTLEVEL shows the number of queued words, which 7 bits hold (10_state.md R37). -/
theorem State.entLevelWord_toNat {s : State} (h : s.entropy.length ≤ Config.entDepth) :
    s.entLevelWord.toNat = s.entropy.length := by
  have hlt : s.entropy.length < 2 ^ 7 := Nat.lt_of_le_of_lt h (by decide)
  rw [State.entLevelWord, BitVec.toNat_setWidth, BitVec.toNat_ofNat, Nat.mod_eq_of_lt hlt,
    Nat.mod_eq_of_lt (hlt.trans (by decide))]

/-- Settles O14: the queue has room below its depth of 64, and nothing happens at it. -/
theorem entropyWritesQueueWords : Obligations.EntropyWritesQueueWords := by
  intro s v
  have hwrite : performAccess (.write 0x028 8 v) s = .next (s.pushEntropy v) := performAccess_register s (by simp) v
  refine ⟨fun hroom => ?_, fun hfull => ?_, fun h => ?_, s.busRead_entropy⟩
  · rw [hwrite, State.pushEntropy, if_pos hroom]
  · rw [hwrite, State.pushEntropy, if_neg (Nat.not_lt.mpr hfull)]
  · rw [State.busRead_entLevel, State.entLevelWord_toNat h]

/-- Settles O19: the offsets are none of the four registers that a write changes, and below the window the offsets past ENTLEVEL
are reserved. -/
theorem readOnlyAndReservedOffsets : Obligations.ReadOnlyAndReservedOffsets := by
  intro s off v halign
  refine ⟨fun hoff => ?_, fun hoff => ?_, s.busRead_id, s.busRead_errinfo⟩
  · have hwin : off < windowBase := by unfold windowBase; omega
    have hreg : off ∉ [0x008, 0x010, 0x018, 0x028] := by
      simp only [List.mem_cons, List.not_mem_nil, or_false]
      omega
    rw [performAccess_write s (hwin.trans (by decide)) halign, State.busWrite_ignored s hwin hreg]
  · obtain rfl | rfl | ⟨hlow, hhigh⟩ := hoff
    · exact s.busRead_cmd
    · exact s.busRead_entropy
    · exact s.busRead_reserved hlow hhigh

/-- Settles O9: the registers read what the reset fields make of them. -/
theorem powerOnState : Obligations.PowerOnState := by
  intro contents
  have hctrl : (State.powerOn contents).ctrlWord = 0 := by simp [State.ctrlWord, State.powerOn, bitAt]
  have hstatus : (State.powerOn contents).statusWord = 0 := by simp [State.statusWord, State.powerOn, State.busy, bitAt]
  exact ⟨rfl, rfl, rfl, rfl, rfl, rfl, rfl, rfl, rfl, rfl, rfl, rfl, rfl, hctrl, hstatus, rfl, rfl⟩

end Sys2Proof.Machine


/-! SUPPORT. How a command leaves the registers, the FIFO and EQ, and the steps that keep the state invariant. -/

namespace Sys2Proof.Machine

/-! ### Commands never raise ACCESS -/

/-- The result is not the error ACCESS, which only host accesses record (60_exceptions.md R320, R323). -/
def NoAccess {α : Type} (res : Result α) : Prop := res ≠ .error .access

section noAccess
variable {α β : Type}

@[simp] theorem noAccess_ok (a : α) : NoAccess (.ok a : Result α) := nofun

@[simp] theorem noAccess_pure (a : α) : NoAccess (pure a : Result α) := noAccess_ok a

@[simp] theorem noAccess_error (c : ErrCode) : NoAccess (.error c : Result α) ↔ c ≠ .access := by
  simp [NoAccess]

@[simp] theorem noAccess_throw (c : ErrCode) : NoAccess (throw c : Result α) ↔ c ≠ .access := noAccess_error c

/-- One part after another raises no ACCESS exactly when neither does. -/
@[simp] theorem noAccess_bind (r : Result α) (f : α → Result β) :
    NoAccess (r >>= f) ↔ NoAccess r ∧ ∀ a, r = .ok a → NoAccess (f a) := by
  cases r <;> simp

@[simp] theorem noAccess_map (r : Result α) (f : α → β) : NoAccess (f <$> r) ↔ NoAccess r := by
  cases r with
  | ok a => exact iff_of_true (noAccess_ok (f a)) (noAccess_ok a)
  | error c => exact (noAccess_error c).trans (noAccess_error c).symm

@[simp] theorem noAccess_ite (p : Prop) [Decidable p] (x y : Result α) :
    NoAccess (if p then x else y) ↔ (p → NoAccess x) ∧ (¬ p → NoAccess y) := by
  by_cases h : p <;> simp [h]

@[simp] theorem noAccess_readAs (p : Bool) (v : α) (c : ErrCode) (hc : c ≠ .access) : NoAccess (readAs p v c) := by
  cases p <;> simp [hc]

end noAccess

@[simp] theorem noAccess_checkSlots (imm : Imm) (os : List (SlotNo × Kind)) : NoAccess (checkSlots imm os) := by
  simp [checkSlots_eq]

section reads
variable (s : State) (n : Nat)

@[simp] theorem State.noAccess_readFq : NoAccess (s.readFq n) := by simp [State.readFq_eq]
@[simp] theorem State.noAccess_readFr : NoAccess (s.readFr n) := by simp [State.readFr_eq]
@[simp] theorem State.noAccess_readFq2 : NoAccess (s.readFq2 n) := by simp [State.readFq2_eq]
@[simp] theorem State.noAccess_readFq6 : NoAccess (s.readFq6 n) := by simp [State.readFq6_eq]
@[simp] theorem State.noAccess_readFq12 : NoAccess (s.readFq12 n) := by simp [State.readFq12_eq]
@[simp] theorem State.noAccess_readG1 : NoAccess (s.readG1 n) := by simp [State.readG1_eq]
@[simp] theorem State.noAccess_readG2 : NoAccess (s.readG2 n) := by simp [State.readG2_eq]
@[simp] theorem State.noAccess_readAff1 : NoAccess (s.readAff1 n) := by simp [State.readAff1_eq]
@[simp] theorem State.noAccess_readAff2 : NoAccess (s.readAff2 n) := by simp [State.readAff2_eq]
@[simp] theorem State.noAccess_readSp6 : NoAccess (s.readSp6 n) := by simp [State.readSp6_eq]
@[simp] theorem State.noAccess_readSp12 : NoAccess (s.readSp12 n) := by simp [State.readSp12_eq]

end reads

/-! ### Draws pop words from the head of the FIFO -/

/-- FQ.RAND's loop raises no ACCESS and leaves a tail of the FIFO (41_field_fq_fr.md R155). -/
theorem drawFq_pops (ws : List Word) : NoAccess (drawFq ws).1 ∧ (drawFq ws).2 <:+ ws := by
  fun_induction drawFq ws with
  | case1 w0 w1 w2 w3 w4 w5 rest v hv => exact ⟨noAccess_ok _, ⟨[w0, w1, w2, w3, w4, w5], rfl⟩⟩
  | case2 w0 w1 w2 w3 w4 w5 rest v hv ih => exact ⟨ih.1, ih.2.trans ⟨[w0, w1, w2, w3, w4, w5], rfl⟩⟩
  | case3 left => exact ⟨by simp, List.suffix_rfl⟩

/-- FR.RAND's loop raises no ACCESS and leaves a tail of the FIFO (41_field_fq_fr.md R168). -/
theorem drawFr_pops (ws : List Word) : NoAccess (drawFr ws).1 ∧ (drawFr ws).2 <:+ ws := by
  fun_induction drawFr ws with
  | case1 w0 w1 w2 w3 rest v hv => exact ⟨noAccess_ok _, ⟨[w0, w1, w2, w3], rfl⟩⟩
  | case2 w0 w1 w2 w3 rest v hv ih => exact ⟨ih.1, ih.2.trans ⟨[w0, w1, w2, w3], rfl⟩⟩
  | case3 left => exact ⟨by simp, List.suffix_rfl⟩

/-! ### How a command leaves the registers -/

/-- `t` is a state in which the command `i` can end from `s`: it completed or recorded an error other than ACCESS; EQ changed only
if `i` writes no slots and is not NOP; the FIFO lost words from its head, and only to FQ.RAND and FR.RAND. -/
structure EndState (i : Instr) (s t : State) : Prop where
  ended : s.Completed t ∨ ∃ c, c ≠ .access ∧ s.Failed c t
  eq : i.writesSlots = true ∨ i = .nop → t.eq = s.eq
  popped : t.entropy <:+ s.entropy
  entropy : (∀ d, i ≠ .fqRand d ∧ i ≠ .frRand d) → t.entropy = s.entropy

/-- The command ends in some end state. -/
def Ends (i : Instr) (s : State) (o : Outcome) : Prop := ∃ t, o = .next t ∧ EndState i s t

section ends
variable {i : Instr} {s : State}

theorem ends_complete : Ends i s (.next s.complete) :=
  ⟨_, rfl, .inl ⟨rfl, rfl, rfl, rfl, rfl, rfl, rfl, rfl, rfl, rfl⟩, fun _ => rfl, List.suffix_rfl, fun _ => rfl⟩

theorem ends_raise {c : ErrCode} (hc : c ≠ .access) : Ends i s (.next (s.raise c)) :=
  ⟨_, rfl, .inr ⟨c, hc, rfl, rfl, rfl, rfl, rfl, rfl, rfl, rfl, rfl, rfl, rfl, rfl⟩, fun _ => rfl, List.suffix_rfl, fun _ => rfl⟩

/-- A command that ends with a run of words, or with an error, leaves EQ, and in the FIFO what its draws left. -/
theorem finishDraw_ended {res : Result (List SlotWord)} (hres : NoAccess res) (d : SlotNo) (rest : List Word) :
    ∃ t, s.finishDraw d res rest = .next t ∧ (s.Completed t ∨ ∃ c, c ≠ .access ∧ s.Failed c t) ∧ t.eq = s.eq ∧ t.entropy = rest := by
  cases res with
  | ok ws => exact ⟨_, rfl, .inl (by constructor <;> simp), by simp, by simp⟩
  | error c =>
    exact ⟨_, rfl, .inr ⟨c, (noAccess_error c).mp hres, rfl, rfl, rfl, rfl, rfl, rfl, rfl, rfl, rfl, rfl, rfl, rfl⟩, rfl, rfl⟩

theorem ends_finishSlots {res : Result (List SlotWord)} (hres : NoAccess res) (d : SlotNo) : Ends i s (s.finishSlots d res) := by
  obtain ⟨t, ho, hended, heq, hentropy⟩ := finishDraw_ended (s := s) hres d s.entropy
  exact ⟨t, ho, hended, fun _ => heq, hentropy ▸ List.suffix_rfl, fun _ => hentropy⟩

/-- A sampling command makes its range check before it draws (41_field_fq_fr.md R155, R168). -/
theorem ends_draw {d : SlotNo} (hi : i = .fqRand d ∨ i = .frRand d) (imm : Imm) (os : List (SlotNo × Kind))
    {res : Result (List SlotWord)} (hres : NoAccess res) {rest : List Word} (hrest : rest <:+ s.entropy) :
    Ends i s (match checkSlots imm os with
      | .error c => .next (s.raise c)
      | .ok () => s.finishDraw d res rest) := by
  split
  next c hc =>
    have hcheck := noAccess_checkSlots imm os
    rw [hc, noAccess_error] at hcheck
    exact ends_raise hcheck
  next =>
    obtain ⟨t, ho, hended, heq, hentropy⟩ := finishDraw_ended (s := s) hres d rest
    refine ⟨t, ho, hended, fun _ => heq, hentropy.symm ▸ hrest, fun hn => ?_⟩
    obtain rfl | rfl := hi
    · exact absurd rfl (hn d).1
    · exact absurd rfl (hn d).2

theorem ends_finishEq {res : Result Bool} (hres : NoAccess res) (hw : i.writesSlots = false) (hi : i ≠ .nop) :
    Ends i s (s.finishEq res) := by
  cases res with
  | ok b =>
    refine ⟨_, rfl, .inl ⟨rfl, rfl, rfl, rfl, rfl, rfl, rfl, rfl, rfl, rfl⟩, ?_, List.suffix_rfl, fun _ => rfl⟩
    simp [hw, hi]
  | error c => exact ends_raise ((noAccess_error c).mp hres)

end ends

/-- Every command ends in an end state of its own. -/
theorem exec_ends (i : Instr) (s : State) : Ends i s (exec i s) := by
  cases i with
  | nop => exact ends_complete
  | ldc d imm =>
    refine ends_finishSlots ?_ d
    cases romWords imm <;> simp
  | fqRand d =>
    obtain ⟨hres, hrest⟩ := drawFq_pops s.entropy
    exact ends_draw (.inl rfl) _ _ ((noAccess_map _ _).mpr hres) hrest
  | frRand d =>
    obtain ⟨hres, hrest⟩ := drawFr_pops s.entropy
    exact ends_draw (.inr rfl) _ _ ((noAccess_map _ _).mpr hres) hrest
  | fqEq | frEq | fq2Eq | fq6Eq | fq12Eq | g1Eq | g2Eq =>
    exact ends_finishEq (by simp) ((Instr.writesSlots_of_row rfl rfl).trans rfl) nofun
  | mov | clr | fqAdd | fqSub | fqNeg | fqMul | fqSqr | fqExp | fqInv | fqFromint | fqToint
  | frAdd | frSub | frNeg | frMul | frSqr | frExp | frInv | frFromint | frToint
  | fq2Add | fq2Sub | fq2Neg | fq2Mul | fq2Sqr | fq2Inv | fq2Conj | fq2Mulxi | fq2Frob
  | fq6Add | fq6Sub | fq6Neg | fq6Mul | fq6Sqr | fq6Inv | fq6Mulnr | fq6Spmul01 | fq6Frob
  | fq12Add | fq12Sub | fq12Neg | fq12Mul | fq12Sqr | fq12Inv | fq12Conj | fq12Spmul014 | fq12Frob | fq12Exp
  | g1Add | g1Dbl | g1Neg | g1Smul | g1Smulglv | g1Toaff | g1Endo | g1Fromaff | g1Ident
  | g2Add | g2Dbl | g2Neg | g2Smul | g2Smulgls | g2Toaff | g2Psi | g2Fromaff | g2Ident
  | linedbl | lineadd | miller | finexp | pair | latDecomp1 | latDecomp2 => exact ends_finishSlots (by simp) _

/-- What an end state keeps of the registers that no command writes, and that no command is in flight in it. -/
theorem EndState.frame {i : Instr} {s t : State} (h : EndState i s t) :
    t.doneIe = s.doneIe ∧ t.errIe = s.errIe ∧ t.pending = s.pending ∧ t.rdata = s.rdata ∧ t.inflight = none := by
  obtain hc | ⟨_, _, hf⟩ := h.ended
  · exact ⟨hc.doneIe, hc.errIe, hc.pending, hc.rdata, hc.inflight⟩
  · exact ⟨hf.doneIe, hf.errIe, hf.pending, hf.rdata, hf.inflight⟩

/-- Settles O28: the slots by `EndsAs.slot_change`, everything else by the end states. -/
theorem everyCommandKeepsWhatItDoesNotWrite : Obligations.EveryCommandKeepsWhatItDoesNotWrite := by
  intro s t i h
  obtain ⟨t', ht', hend⟩ := exec_ends i s
  cases h.symm.trans ht'
  refine ⟨fun n hout => ?_, fun hw => hend.eq (.inl hw), fun hi => hend.eq (.inr hi), hend.entropy, hend.frame⟩
  by_contra hne
  obtain ⟨_, _, o, ho, hlow, hhigh⟩ := (exec_endsAs i s).slot_change h hne
  have := hout o ho
  omega

/-! ### The invariant, where commands end -/

/-- Commands raise the codes 1 to 8 (60_exceptions.md R320). -/
theorem ErrCode.code_range {c : ErrCode} (hc : c ≠ .access) : 1 ≤ c.code.toNat ∧ c.code.toNat ≤ 9 ∧ c.code ≠ 9 := by
  cases c with
  | access => exact absurd rfl hc
  | _ => decide

/-- A command in flight ends in a state that meets the invariant. -/
theorem State.Inv.endState {i : Instr} {s t : State} (hs : s.Inv) (hbusy : s.busy = true) (h : EndState i s t) : t.Inv := by
  obtain ⟨herr, hdone⟩ := hs.running hbusy
  obtain ⟨-, -, hpending, -, hidle⟩ := h.frame
  have hfifo : t.entropy.length ≤ Config.entDepth := h.popped.length_le.trans hs.entropy
  have hrunning : t.busy = true → t.err = false ∧ t.done = false := by simp [State.busy, hidle]
  have harrived : ∀ x ∈ t.pending, x.off < Config.blockSize := hpending.symm ▸ hs.arrived
  obtain hc | ⟨c, hne, hf⟩ := h.ended
  · have hok : t.err = false := hc.err.trans herr
    have hzero : t.errcode = 0 ∧ t.errinfo = 0 := hc.errcode.symm ▸ hc.errinfo.symm ▸ hs.noError herr
    exact ⟨hfifo, fun _ => hzero, by simp [hok], by simp [hok], by simp [hok], hrunning, harrived⟩
  · obtain ⟨hlow, hhigh, hcode⟩ := ErrCode.code_range hne
    exact ⟨hfifo, by simp [hf.err], fun _ => hf.errcode.symm ▸ ⟨hlow, hhigh⟩, fun _ _ => hf.done.trans hdone,
      fun _ h9 => absurd (hf.errcode.symm.trans h9) hcode, hrunning, harrived⟩

/-- A command word in flight ends in a state that meets the invariant, whether it decodes or not. -/
theorem runCommand_keeps_inv {s : State} (hs : s.Inv) (hbusy : s.busy = true) (w : Word) :
    ∃ t, runCommand w s = .next t ∧ t.Inv := by
  unfold runCommand
  split
  next i _ =>
    obtain ⟨t, ht, hend⟩ := exec_ends i s
    exact ⟨t, ht, hs.endState hbusy hend⟩
  next =>
    obtain ⟨t, ht, hend⟩ := ends_raise (i := .nop) (s := s) (c := .illegalCommand) nofun
    exact ⟨t, ht, hs.endState hbusy hend⟩

/-! ### The invariant, where an access is performed -/

section access
variable {s : State}

/-- The invariant does not see what the bus returned, and asks of the waiting accesses only where they lie. -/
theorem State.Inv.congr {t : State} (hs : s.Inv) (hentropy : t.entropy = s.entropy) (herr : t.err = s.err)
    (hcode : t.errcode = s.errcode) (hinfo : t.errinfo = s.errinfo) (hdone : t.done = s.done)
    (hinflight : t.inflight = s.inflight) (hpending : ∀ x ∈ t.pending, x ∈ s.pending) : t.Inv := by
  have hbusy : t.busy = s.busy := congrArg Option.isSome hinflight
  constructor
  case arrived => exact fun x hx => hs.arrived x (hpending x hx)
  all_goals simp only [hentropy, herr, hcode, hinfo, hdone, hbusy]
  exacts [hs.entropy, hs.noError, hs.errorCode, hs.commandError, hs.accessError, hs.running]

theorem State.Inv.softReset (hs : s.Inv) (hidle : s.inflight = none) : s.softReset.Inv :=
  ⟨Nat.zero_le _, fun _ => ⟨rfl, rfl⟩, nofun, nofun, nofun, by simp [State.busy, hidle], hs.arrived⟩

theorem State.Inv.writeCtrl (hs : s.Inv) (hidle : s.inflight = none) (v : Word) : (s.writeCtrl v).Inv := by
  unfold State.writeCtrl
  split
  · exact hs.softReset hidle
  · exact hs.congr rfl rfl rfl rfl rfl rfl fun _ hx => hx

theorem State.Inv.clearDone (hs : s.Inv) : State.Inv { s with done := false } :=
  ⟨hs.entropy, hs.noError, hs.errorCode, fun _ _ => rfl, hs.accessError, fun hb => ⟨(hs.running hb).1, rfl⟩, hs.arrived⟩

theorem State.Inv.clearError (hs : s.Inv) : s.clearError.Inv :=
  ⟨hs.entropy, fun _ => ⟨rfl, rfl⟩, nofun, nofun, nofun, fun hb => ⟨rfl, (hs.running hb).2⟩, hs.arrived⟩

theorem State.Inv.writeStatus (hs : s.Inv) (v : Word) : (s.writeStatus v).Inv := by
  unfold State.writeStatus
  dsimp only
  split <;> split
  exacts [hs.clearDone.clearError, hs.clearError, hs.clearDone, hs]

/-- A command is accepted only while ERR = 0, and acceptance clears DONE (60_exceptions.md R327, R330). -/
theorem State.Inv.accept (hs : s.Inv) (v : Word) : (s.accept v).Inv := by
  unfold State.accept
  split
  · exact hs
  next herr =>
    have hok : s.err = false := by simpa using herr
    exact ⟨hs.entropy, hs.noError, hs.errorCode, fun _ _ => rfl, hs.accessError, fun _ => ⟨hok, rfl⟩, hs.arrived⟩

/-- A word is queued only while fewer than 64 are (10_state.md R36). -/
theorem State.Inv.pushEntropy (hs : s.Inv) (v : Word) : (s.pushEntropy v).Inv := by
  unfold State.pushEntropy
  split
  next hroom =>
    refine ⟨?_, hs.noError, hs.errorCode, hs.commandError, hs.accessError, hs.running, hs.arrived⟩
    rw [List.length_append, List.length_singleton]
    omega
  next => exact hs

theorem State.Inv.setSlot (hs : s.Inv) (n : Nat) (v : SlotWord) : (s.setSlot n v).Inv :=
  hs.congr rfl rfl rfl rfl rfl rfl fun _ hx => hx

theorem State.Inv.busWrite (hs : s.Inv) (hidle : s.inflight = none) (off : Nat) (v : Word) : (s.busWrite off v).Inv := by
  by_cases hwin : windowBase ≤ off
  · rw [State.busWrite_window s hwin]
    exact hs.setSlot _ _
  by_cases hreg : off ∈ [0x008, 0x010, 0x018, 0x028]
  · simp only [List.mem_cons, List.not_mem_nil, or_false] at hreg
    obtain rfl | rfl | rfl | rfl := hreg
    · exact hs.writeCtrl hidle v
    · exact hs.writeStatus v
    · exact hs.accept v
    · exact hs.pushEntropy v
  · rw [State.busWrite_ignored s (Nat.not_le.mp hwin) hreg]
    exact hs

/-- An ACCESS error is recorded with an offset of the block, and only while ERR = 0 (20_memory.md R62). -/
theorem State.Inv.recordAccess (hs : s.Inv) (hidle : s.inflight = none) {off : Nat} (hoff : off < Config.blockSize) :
    (s.accessError off).Inv := by
  unfold State.accessError
  split
  · exact hs
  · have hinfo : (BitVec.ofNat 64 off).toNat < Config.blockSize := by
      rw [BitVec.toNat_ofNat]
      exact (Nat.mod_le _ _).trans_lt hoff
    have hcode : 1 ≤ ErrCode.access.code.toNat ∧ ErrCode.access.code.toNat ≤ 9 := by decide
    exact ⟨hs.entropy, nofun, fun _ => hcode, fun _ h => absurd rfl h, fun _ _ => hinfo, by simp [State.busy, hidle],
      hs.arrived⟩

/-- An access to the block is performed by the idle core and keeps the invariant. -/
theorem performAccess_keeps_inv (hs : s.Inv) (hidle : s.inflight = none) {x : Access} (hoff : x.off < Config.blockSize) :
    ∃ t, performAccess x s = .next t ∧ t.Inv := by
  obtain ⟨off, -, -, h⟩ | ⟨off, v, -, -, h⟩ | ⟨off, width, rfl, -, h⟩ | ⟨off, width, v, rfl, -, h⟩ := performAccess_cases x s hoff
  · exact ⟨_, h, hs.congr rfl rfl rfl rfl rfl rfl fun _ hx => hx⟩
  · exact ⟨_, h, hs.busWrite hidle off v⟩
  · exact ⟨_, h, (hs.recordAccess hidle hoff).congr rfl rfl rfl rfl rfl rfl fun _ hx => hx⟩
  · exact ⟨_, h, hs.recordAccess hidle hoff⟩

/-- An access that is not held is performed and keeps the invariant, whether a command runs or not (20_memory.md R66). -/
theorem performAccess_unheld_keeps_inv (hs : s.Inv) {x : Access} (hoff : x.off < Config.blockSize) (hx : x.held = false) :
    ∃ t, performAccess x s = .next t ∧ t.Inv := by
  obtain ⟨off, rfl, halign, -⟩ | ⟨off, v, rfl, halign, hlow, h1, h2, h3, h4⟩ := Access.not_held x hx
  · exact ⟨_, performAccess_read s hoff halign, hs.congr rfl rfl rfl rfl rfl rfl fun _ hx => hx⟩
  · have hsame : s.busWrite off v = s := State.busWrite_ignored s hlow (by simp [h1, h2, h3, h4]) v
    exact ⟨s, (performAccess_write s hoff halign v).trans (congrArg _ hsame), hs⟩

end access

/-! ### The invariant, over a step -/

theorem busyStep_keeps_inv {s : State} (hs : s.Inv) (hbusy : s.busy = true) (w : Word) : ∃ t, busyStep w s = .next t ∧ t.Inv := by
  unfold busyStep
  split
  next x rest hx =>
    obtain ⟨pre, post, hpending, rfl, hheld, -⟩ := takeUnheld_some _ _ _ hx
    have hmem : x ∈ s.pending := by simp [hpending]
    have hrest : State.Inv { s with pending := pre ++ post } :=
      hs.congr rfl rfl rfl rfl rfl rfl fun y hy => by
        rw [hpending]
        exact (List.sublist_cons_self x post).append_left pre |>.subset hy
    exact performAccess_unheld_keeps_inv hrest (hs.arrived x hmem) hheld
  next =>
    split
    next => exact runCommand_keeps_inv hs hbusy w
    next => exact ⟨_, rfl, hs.congr rfl rfl rfl rfl rfl rfl fun _ hx => hx⟩

theorem idleStep_keeps_inv {s : State} (hs : s.Inv) (hidle : s.inflight = none) : ∃ t, idleStep s = .next t ∧ t.Inv := by
  unfold idleStep
  split
  next => exact ⟨s, rfl, hs⟩
  next x rest hp =>
    have hrest : State.Inv { s with pending := rest } :=
      hs.congr rfl rfl rfl rfl rfl rfl fun y hy => hp.symm ▸ List.mem_cons_of_mem x hy
    exact performAccess_keeps_inv hrest hidle (hs.arrived x (hp.symm ▸ List.mem_cons_self))

/-- Settles O7: a busy step performs an un-held access, lets time pass or ends the command; an idle step performs an access. -/
theorem everyStepCompletesAndKeepsTheInvariant : Obligations.EveryStepCompletesAndKeepsTheInvariant := by
  intro s hs
  unfold step
  split
  next w hw => exact busyStep_keeps_inv hs (congrArg Option.isSome hw) w
  next hidle => exact idleStep_keeps_inv hs hidle

/-- Settles O6: nothing is recorded, queued, in flight or waiting. -/
theorem powerOnMeetsTheInvariant : Obligations.PowerOnMeetsTheInvariant := by
  have h (contents : Vector SlotWord 256) : (State.powerOn contents).Inv :=
    ⟨Nat.zero_le _, fun _ => ⟨rfl, rfl⟩, nofun, nofun, nofun, nofun, nofun⟩
  exact ⟨h, h _⟩

end Sys2Proof.Machine


/-! SUPPORT. The Montgomery views of Fq and Fr: reading and storing undo one another, and the ROM's constants are theirs. -/

namespace Sys2Proof.Machine

/-! ### The radix and its inverse -/

/-- The Montgomery radix of Fr times its inverse constant is 1 modulo r. -/
theorem radixR_mul_radixRInv : Config.radixR * radixRInv % Config.r = 1 := by decide +kernel

/-- Dividing by a radix and multiplying with it gives a canonical number back. -/
theorem div_mul_radix {m R Rinv n : Nat} (hR : R * Rinv % m = 1) (hn : n < m) : n * Rinv % m * R % m = n := by
  rw [Nat.mod_mul_mod, Nat.mul_assoc, Nat.mul_comm Rinv, ← Nat.mul_mod_mod, hR, Nat.mul_one, Nat.mod_eq_of_lt hn]

/-- Multiplying with a radix and dividing by it gives a canonical number back. -/
theorem mul_div_radix {m R Rinv n : Nat} (hR : R * Rinv % m = 1) (hn : n < m) : n * R % m * Rinv % m = n :=
  div_mul_radix (Nat.mul_comm R Rinv ▸ hR) hn

/-! ### The view of Fq (10_state.md R22) -/

/-- A canonical word holds its value times the radix. -/
theorem fqOfWord_mul_radix {w : SlotWord} (hw : w.toNat < Config.q) :
    (fqOfWord w).val * Config.radixQ % Config.q = w.toNat := by
  rw [fqOfWord, Fin.val_ofNat]
  exact div_mul_radix radixQ_mul_radixQInv hw

/-- A canonical word that was read is stored as it was. -/
theorem fqToWord_fqOfWord {w : SlotWord} (hw : w.toNat < Config.q) : fqToWord (fqOfWord w) = w :=
  BitVec.eq_of_toNat_eq ((toNat_fqToWord _).trans (fqOfWord_mul_radix hw))

/-! ### The view of Fr (10_state.md R23) -/

theorem frOfWord_mul_radix {w : SlotWord} (hw : w.toNat < Config.r) :
    (frOfWord w).val * Config.radixR % Config.r = w.toNat := by
  rw [frOfWord, Fin.val_ofNat]
  exact div_mul_radix radixR_mul_radixRInv hw

/-- The word of an Fr value is canonical: it holds (x·R') mod r. -/
theorem toNat_frToWord (x : Fr) : (frToWord x).toNat = x.val * Config.radixR % Config.r :=
  toNat_ofNat_of_lt ((Nat.mod_lt _ (Nat.succ_pos _)).trans (by decide +kernel))

theorem frToWord_frOfWord {w : SlotWord} (hw : w.toNat < Config.r) : frToWord (frOfWord w) = w :=
  BitVec.eq_of_toNat_eq ((toNat_frToWord _).trans (frOfWord_mul_radix hw))

theorem frOfWord_frToWord (x : Fr) : frOfWord (frToWord x) = x := by
  apply Fin.ext
  rw [frOfWord, Fin.val_ofNat, toNat_frToWord]
  exact mul_div_radix radixR_mul_radixRInv x.isLt

/-! ### The Montgomery constants of the ROM (41_field_fq_fr.md R140) -/

theorem montOneQ_eq : montOneQ = fqToWord 1 := by decide +kernel
theorem montOneR_eq : montOneR = frToWord 1 := by decide +kernel
theorem montSquareQ_eq : montSquareQ = fqToWord (Fin.ofNat Config.q (2 ^ 384)) := by decide +kernel
theorem montSquareR_eq : montSquareR = frToWord (Fin.ofNat Config.r (2 ^ 256)) := by decide +kernel
theorem montPrimeQ_mul : (montPrimeQ.toNat * Config.q + 1) % 2 ^ 64 = 0 := by decide +kernel
theorem montPrimeR_mul : (montPrimeR.toNat * Config.r + 1) % 2 ^ 64 = 0 := by decide +kernel

/-- Settles O32: the two views and the six constants. -/
theorem montgomeryViewsRoundTrip : Obligations.MontgomeryViewsRoundTrip :=
  ⟨fun _ hw => ⟨fqOfWord_mul_radix hw, fqToWord_fqOfWord hw⟩, fun x => ⟨toNat_fqToWord x, fqOfWord_fqToWord x⟩,
    fun _ hw => ⟨frOfWord_mul_radix hw, frToWord_frOfWord hw⟩, fun x => ⟨toNat_frToWord x, frOfWord_frToWord x⟩,
    montOneQ_eq, montOneR_eq, montSquareQ_eq, montSquareR_eq, montPrimeQ_mul, montPrimeR_mul⟩

end Sys2Proof.Machine


/-! SUPPORT. The G2 commands on readable operands: the words of the points they write, and the slots that show a point again. -/

namespace Sys2Proof.Machine

/-! ### Words of values that slots show -/

/-- Negation under a scaling modulo `m`: 0 for 0, otherwise the complement of the scaled number. -/
theorem neg_mul_mod {m x : Nat} (R : Nat) (hx : x < m) :
    (m - x) % m * R % m = if x * R % m = 0 then 0 else m - x * R % m := by
  have hsum : ((m - x) % m * R % m + x * R % m) % m = 0 := by
    rw [Nat.mod_mul_mod, ← Nat.add_mod, ← Nat.add_mul, Nat.sub_add_cancel hx.le, Nat.mul_mod_right]
  have hneg : (m - x) % m * R % m < m := Nat.mod_lt _ (by omega)
  have hpos : x * R % m < m := Nat.mod_lt _ (by omega)
  generalize (m - x) % m * R % m = y at hsum hneg ⊢
  generalize x * R % m = w at hsum hpos ⊢
  obtain ⟨k, hk⟩ := Nat.dvd_of_mod_eq_zero hsum
  have hk2 : k < 2 := by
    by_contra hge
    have : m * 2 ≤ m * k := Nat.mul_le_mul_left m (by omega)
    omega
  interval_cases k <;> split <;> omega

/-- The word of a negative is the negative of the word (41_field_fq_fr.md R142). -/
theorem fqToWord_neg (x : Fq) : fqToWord (-x) = negWord Config.q (fqToWord x) := by
  rw [negWord, toNat_fqToWord, fqToWord, Fin.val_neg', neg_mul_mod _ x.isLt]

section shown
variable {s : State} {n m : Nat}

/-- The word of the value that a canonical slot shows is the slot. -/
theorem State.fqToWord_fqAt (h : s.canonFq n) : fqToWord (s.fqAt n) = s.slot n := fqToWord_fqOfWord h

/-- The words of an Fq2 value inside a run of canonical slots are its slots. -/
theorem State.fq2Words_fq2At (h : s.allFq n m = true) (k : Nat) (hk : k + 1 < m) :
    fq2Words (s.fq2At (n + k)) = [s.slot (n + k), s.slot (n + (k + 1))] := by
  have hcanon := (s.allFq_iff n m).mp h
  rw [fq2Words, State.fq2At, State.fqToWord_fqAt (hcanon k (by omega)), Nat.add_assoc, State.fqToWord_fqAt (hcanon (k + 1) hk)]

/-- A readable G2 point is canonical in its eight slots, and its T is Z·Z (10_state.md R26). -/
theorem State.readable_g2 {imm : Imm} (h : s.kindError imm n .g2 = none) :
    s.allFq n 8 = true ∧ s.fq2At (n + 6) = (s.fq2At (n + 4)).mul (s.fq2At (n + 4)) := by
  rw [State.kindError] at h
  split_ifs at h with hcanon ht
  exact ⟨hcanon, ht⟩

/-- The words of T = Z·Z of a readable point are the slots of its T. -/
theorem State.tWords_g2At {imm : Imm} (h : s.kindError imm n .g2 = none) :
    fq2Words ((s.g2At n).z.mul (s.g2At n).z) = [s.slot (n + 6), s.slot (n + 7)] := by
  obtain ⟨hcanon, ht⟩ := State.readable_g2 h
  rw [State.g2At, ← ht, State.fq2Words_fq2At hcanon 6 (by omega)]

/-- A readable G2 point is written back to the words it was read from. -/
theorem State.g2Words_g2At {imm : Imm} (h : s.kindError imm n .g2 = none) :
    g2Words (s.g2At n) = (List.range 8).map fun k => s.slot (n + k) := by
  obtain ⟨hcanon, -⟩ := State.readable_g2 h
  have hx : fq2Words (s.g2At n).x = [s.slot (n + 0), s.slot (n + 1)] := State.fq2Words_fq2At hcanon 0 (by omega)
  have hy : fq2Words (s.g2At n).y = [s.slot (n + 2), s.slot (n + 3)] := State.fq2Words_fq2At hcanon 2 (by omega)
  have hz : fq2Words (s.g2At n).z = [s.slot (n + 4), s.slot (n + 5)] := State.fq2Words_fq2At hcanon 4 (by omega)
  rw [g2Words, hx, hy, hz, State.tWords_g2At h]
  rfl

/-- The negative of a readable G2 point differs from it in the two slots of Y (43_groups.md R240). -/
theorem State.g2Words_neg_g2At {imm : Imm} (h : s.kindError imm n .g2 = none) :
    g2Words (g2Neg (s.g2At n)) = (List.range 8).map fun k =>
      if k = 2 ∨ k = 3 then negWord Config.q (s.slot (n + k)) else s.slot (n + k) := by
  obtain ⟨hcanon, -⟩ := State.readable_g2 h
  have hy2 : s.canonFq (n + 2) := (s.allFq_iff n 8).mp hcanon 2 (by omega)
  have hy3 : s.canonFq (n + 3) := (s.allFq_iff n 8).mp hcanon 3 (by omega)
  have hx : fq2Words (s.g2At n).x = [s.slot (n + 0), s.slot (n + 1)] := State.fq2Words_fq2At hcanon 0 (by omega)
  have hy : fq2Words (s.g2At n).y.neg = [negWord Config.q (s.slot (n + 2)), negWord Config.q (s.slot (n + 3))] := by
    rw [← State.fqToWord_fqAt hy2, ← State.fqToWord_fqAt hy3, ← fqToWord_neg, ← fqToWord_neg]
    rfl
  have hz : fq2Words (s.g2At n).z = [s.slot (n + 4), s.slot (n + 5)] := State.fq2Words_fq2At hcanon 4 (by omega)
  change fq2Words (s.g2At n).x ++ fq2Words (s.g2At n).y.neg ++ fq2Words (s.g2At n).z ++
    fq2Words ((s.g2At n).z.mul (s.g2At n).z) = _
  rw [hx, hy, hz, State.tWords_g2At h]
  rfl

end shown

/-- A point with Z = 1 is written with T = 1. -/
theorem g2Words_affine (x y : Fq2) :
    g2Words ⟨x, y, Fq2.one⟩ = fq2Words x ++ fq2Words y ++ fq2Words ⟨1, 0⟩ ++ fq2Words ⟨1, 0⟩ := by
  rw [g2Words, Fq2.one_mul]
  rfl

/-- The identity (1, 1, 0) is written with T = 0 (43_groups.md R242). -/
theorem g2Words_g2Ident :
    g2Words g2Ident = fq2Words ⟨1, 0⟩ ++ fq2Words ⟨1, 0⟩ ++ fq2Words ⟨0, 0⟩ ++ fq2Words ⟨0, 0⟩ := by
  change fq2Words Fq2.one ++ fq2Words Fq2.one ++ fq2Words Fq2.zero ++ fq2Words (Fq2.zero.mul Fq2.zero) = _
  rw [Fq2.zero_mul]
  rfl

/-! ### The commands -/

section g2
variable {s : State} {d a b : SlotNo}

theorem execG2Add_writes (h : s.Ready (.g2Add d a b)) :
    s.Writes (exec (.g2Add d a b) s) d (g2Words (g2Add (s.g2At a.toNat) (s.g2At b.toNat))) := by
  obtain ⟨hc, hr⟩ := h.checks_pass rfl rfl rfl
  have hP := State.readG2_ok (hr (a, .g2) (by simp [Instr.operands]))
  have hQ := State.readG2_ok (hr (b, .g2) (by simp [Instr.operands]))
  exact s.writes_of_ok (checked_read_read_ok hc hP hQ _) (fits_of_checkSlots hc (Nat.succ_pos _))

/-- DBL, NEG, TOAFF and PSI have the same operands: D and a readable point at A. -/
theorem ready_g2_unary {i : Instr} {op : BitVec 8} {r : Form} (h : s.Ready i) (hops : i.operands = [(d, .g2), (a, .g2)])
    (himm : i.immField = 0) (he : encode i = encodeWord op d a 0 0) (hr : formOf op.toNat = some r) (hd : r.usesD = true) :
    checkSlots 0 [(d, .g2), (a, .g2)] = .ok () ∧ s.kindError 0 a.toNat .g2 = none ∧ d.toNat + 8 ≤ 256 := by
  obtain ⟨hc, hr⟩ := h.checks_pass he hr hd
  rw [hops, himm] at hc hr
  exact ⟨hc, hr (a, .g2) (by simp), fits_of_checkSlots hc (Nat.succ_pos _)⟩

theorem execG2Dbl_writes (h : s.Ready (.g2Dbl d a)) :
    s.Writes (exec (.g2Dbl d a) s) d (g2Words (g2Dbl (s.g2At a.toNat))) := by
  obtain ⟨hc, hP, hfit⟩ := ready_g2_unary h rfl rfl rfl rfl rfl
  exact s.writes_of_ok (checked_read_ok hc (State.readG2_ok hP) _) hfit

theorem execG2Neg_writes (h : s.Ready (.g2Neg d a)) :
    s.Writes (exec (.g2Neg d a) s) d ((List.range 8).map fun k =>
      if k = 2 ∨ k = 3 then negWord Config.q (s.slot (a.toNat + k)) else s.slot (a.toNat + k)) := by
  obtain ⟨hc, hP, hfit⟩ := ready_g2_unary h rfl rfl rfl rfl rfl
  rw [← State.g2Words_neg_g2At hP]
  exact s.writes_of_ok (checked_read_ok hc (State.readG2_ok hP) _) hfit

theorem execG2Psi_writes (h : s.Ready (.g2Psi d a)) :
    s.Writes (exec (.g2Psi d a) s) d (g2Words (psi (s.g2At a.toNat))) := by
  obtain ⟨hc, hP, hfit⟩ := ready_g2_unary h rfl rfl rfl rfl rfl
  exact s.writes_of_ok (checked_read_ok hc (State.readG2_ok hP) _) hfit

/-- TOAFF of a point that is no identity makes words from it: the point's own for Z = 1, those of the affine point otherwise
(43_groups.md R265). -/
theorem execG2Toaff_writes (h : s.Ready (.g2Toaff d a)) (hz : (s.g2At a.toNat).z = Fq2.one ∨ (s.g2At a.toNat).z ≠ Fq2.zero) :
    s.Writes (exec (.g2Toaff d a) s) d (g2Words
      (if (s.g2At a.toNat).z = Fq2.one then s.g2At a.toNat
        else ⟨(g2Aff (s.g2At a.toNat)).1, (g2Aff (s.g2At a.toNat)).2, Fq2.one⟩)) := by
  obtain ⟨hc, hP, hfit⟩ := ready_g2_unary h rfl rfl rfl rfl rfl
  refine s.writes_of_ok ?_ hfit
  rw [hc, State.readG2_ok hP, result_ok_bind, result_ok_bind]
  by_cases hone : (s.g2At a.toNat).z = Fq2.one
  · rw [if_pos hone, if_pos hone]
    rfl
  · rw [if_neg hone, if_neg hone, if_neg (hz.resolve_left hone)]
    rfl

theorem execG2Toaff_writes_one (h : s.Ready (.g2Toaff d a)) (hz : (s.g2At a.toNat).z = Fq2.one) :
    s.Writes (exec (.g2Toaff d a) s) d ((List.range 8).map fun k => s.slot (a.toNat + k)) := by
  obtain ⟨-, hP, -⟩ := ready_g2_unary h rfl rfl rfl rfl rfl
  have hw := execG2Toaff_writes h (.inl hz)
  rwa [if_pos hz, State.g2Words_g2At hP] at hw

theorem execG2Toaff_writes_affine (h : s.Ready (.g2Toaff d a)) (hone : (s.g2At a.toNat).z ≠ Fq2.one)
    (hzero : (s.g2At a.toNat).z ≠ Fq2.zero) :
    let P := s.g2At a.toNat
    let zi := P.z.inverse
    s.Writes (exec (.g2Toaff d a) s) d
      (fq2Words (P.x.mul (zi.mul zi)) ++ fq2Words (P.y.mul ((zi.mul zi).mul zi)) ++ fq2Words ⟨1, 0⟩ ++ fq2Words ⟨1, 0⟩) := by
  have hw := execG2Toaff_writes h (.inr hzero)
  rwa [if_neg hone, g2Words_affine] at hw

theorem execG2Smul_writes (h : s.Ready (.g2Smul d a b)) :
    s.Writes (exec (.g2Smul d a b) s) d (g2Words (g2SMul (s.g2At a.toNat) (s.slot b.toNat).toNat)) := by
  obtain ⟨hc, hr⟩ := h.checks_pass rfl rfl rfl
  have hP := State.readG2_ok (hr (a, .g2) (by simp [Instr.operands]))
  exact s.writes_of_ok (checked_read_ok hc hP _) (fits_of_checkSlots hc (Nat.succ_pos _))

/-- The four coefficients of Decompose2 (44_lattice.md R291). -/
theorem decompose2_four (n : Nat) : ∃ c0 c1 c2 c3, decompose2 n = [c0, c1, c2, c3] := ⟨_, _, _, _, rfl⟩

theorem execG2Smulgls_writes (h : s.Ready (.g2Smulgls d a b)) (hk : (s.slot b.toNat).toNat < Config.r) :
    s.Writes (exec (.g2Smulgls d a b) s) d (g2Words (g2MultiMul
      ([s.g2At a.toNat, psi (s.g2At a.toNat), psi (psi (s.g2At a.toNat)), psi (psi (psi (s.g2At a.toNat)))].zip
        (decompose2 (s.slot b.toNat).toNat)))) := by
  obtain ⟨hc, hr⟩ := h.checks_pass rfl rfl rfl
  have hP := State.readG2_ok (hr (a, .g2) (by simp [Instr.operands]))
  exact s.writes_of_ok (checked_read_scalar_ok hc hP hk _) (fits_of_checkSlots hc (Nat.succ_pos _))

theorem execG2Smulgls_writes_multiMul (h : s.Ready (.g2Smulgls d a b)) (hk : (s.slot b.toNat).toNat < Config.r) :
    let P := s.g2At a.toNat
    ∃ c0 c1 c2 c3, decompose2 (s.slot b.toNat).toNat = [c0, c1, c2, c3] ∧
      s.Writes (exec (.g2Smulgls d a b) s) d
        (g2Words (g2MultiMul [(P, c0), (psi P, c1), (psi (psi P), c2), (psi (psi (psi P)), c3)])) := by
  obtain ⟨c0, c1, c2, c3, hcs⟩ := decompose2_four (s.slot b.toNat).toNat
  have hw := execG2Smulgls_writes h hk
  rw [hcs] at hw
  exact ⟨c0, c1, c2, c3, hcs, hw⟩

theorem execG2Fromaff_writes (h : s.Ready (.g2Fromaff d a)) :
    s.Writes (exec (.g2Fromaff d a) s) d
      (((List.range 4).map fun k => s.slot (a.toNat + k)) ++ fq2Words ⟨1, 0⟩ ++ fq2Words ⟨1, 0⟩) := by
  obtain ⟨hc, hr⟩ := h.checks_pass rfl rfl rfl
  have hA := hr (a, .af2) (by simp [Instr.operands])
  have hcanon : s.allFq a.toNat 4 = true := State.allFq_of_readable hA (by simp)
  have hx : fq2Words (s.fq2At a.toNat) = [s.slot (a.toNat + 0), s.slot (a.toNat + 1)] :=
    State.fq2Words_fq2At hcanon 0 (by omega)
  have hy : fq2Words (s.fq2At (a.toNat + 2)) = [s.slot (a.toNat + 2), s.slot (a.toNat + 3)] :=
    State.fq2Words_fq2At hcanon 2 (by omega)
  have hw : s.Writes (exec (.g2Fromaff d a) s) d (g2Words ⟨s.fq2At a.toNat, s.fq2At (a.toNat + 2), Fq2.one⟩) :=
    s.writes_of_ok (checked_read_ok hc (State.readAff2_ok hA) _) (fits_of_checkSlots hc (Nat.succ_pos _))
  rwa [g2Words_affine, hx, hy] at hw

theorem execG2Ident_writes (h : s.Ready (.g2Ident d)) :
    s.Writes (exec (.g2Ident d) s) d (fq2Words ⟨1, 0⟩ ++ fq2Words ⟨1, 0⟩ ++ fq2Words ⟨0, 0⟩ ++ fq2Words ⟨0, 0⟩) := by
  obtain ⟨hc, -⟩ := h.checks_pass rfl rfl rfl
  rw [← g2Words_g2Ident]
  exact s.writes_of_ok (checked_ok hc _) (fits_of_checkSlots hc (Nat.succ_pos _))

end g2

/-- Settles O48: each command reads its point and writes the words of its function's value. -/
theorem g2CommandsWriteTheirPoint : Obligations.G2CommandsWriteTheirPoint := fun _ _ _ _ =>
  ⟨execG2Add_writes, execG2Dbl_writes, execG2Neg_writes, execG2Smul_writes, execG2Smulgls_writes_multiMul,
    execG2Toaff_writes_one, execG2Toaff_writes_affine, execG2Psi_writes, execG2Fromaff_writes, execG2Ident_writes⟩

end Sys2Proof.Machine


/-! SUPPORT. Host accesses to the block: the slot window and its byte order, what is performed and what is recorded, which accesses a
running command holds, and how an access comes from the host's address space to the block. -/

namespace Sys2Proof.Machine

/-! ### Accesses that are not performed (20_memory.md R62) -/

theorem performAccess_improper_read (s : State) {off width : Nat} (hoff : off < Config.blockSize)
    (himproper : width ≠ 8 ∨ off % 8 ≠ 0) :
    performAccess (.read off width) s = .next { s.accessError off with rdata := 0 } := by
  obtain ⟨_, he, halign, -⟩ | ⟨_, _, he, _⟩ | ⟨_, _, he, -, h⟩ | ⟨_, _, _, he, _⟩ :=
    performAccess_cases (.read off width) s hoff <;> cases he
  · omega
  · exact h

theorem performAccess_improper_write (s : State) {off width : Nat} (hoff : off < Config.blockSize)
    (himproper : width ≠ 8 ∨ off % 8 ≠ 0) (v : Word) :
    performAccess (.write off width v) s = .next (s.accessError off) := by
  obtain ⟨_, he, _⟩ | ⟨_, _, he, halign, -⟩ | ⟨_, _, he, _⟩ | ⟨_, _, _, he, -, h⟩ :=
    performAccess_cases (.write off width v) s hoff <;> cases he
  · omega
  · exact h

/-- An earlier error stays recorded (60_exceptions.md R323). -/
theorem State.accessError_of_err {s : State} (herr : s.err = true) (off : Nat) : s.accessError off = s := if_pos herr

theorem State.accessError_of_no_err {s : State} (herr : s.err = false) (off : Nat) :
    s.accessError off = { s with err := true, errcode := 9, errinfo := BitVec.ofNat 64 off } := by
  rw [State.accessError, herr]
  rfl

/-- Settles O17: an improper access is `accessError`, which records its offset only while ERR = 0. -/
theorem narrowOrMisalignedAccessRecordsAccess : Obligations.NarrowOrMisalignedAccessRecordsAccess := by
  intro s off width v hoff himproper
  rw [performAccess_improper_read s hoff himproper, performAccess_improper_write s hoff himproper]
  refine ⟨fun herr => ?_, fun herr => ?_⟩
  · rw [State.accessError_of_err herr]
    exact ⟨rfl, rfl⟩
  · rw [State.accessError_of_no_err herr]
    exact ⟨rfl, rfl⟩

/-! ### Reads (20_memory.md R65) -/

/-- No register shows what the bus returned for an earlier read. -/
@[simp] theorem State.busRead_update_rdata (s : State) (v : Word) (off : Nat) :
    State.busRead { s with rdata := v } off = s.busRead off := rfl

/-- No register shows which accesses wait. -/
@[simp] theorem State.busRead_update_pending (s : State) (xs : List Access) (off : Nat) :
    State.busRead { s with pending := xs } off = s.busRead off := rfl

/-- Settles O18: a read changes only `rdata`, and no read depends on it. -/
theorem readsHaveNoSideEffect : Obligations.ReadsHaveNoSideEffect := by
  intro s off hoff halign
  refine ⟨s.busRead off, performAccess_read s hoff halign, fun off' hoff' halign' => ⟨s.busRead off', ?_, ?_⟩⟩
  · simp only [performAccess_read _ hoff' halign', State.busRead_update_rdata]
  · simp only [performAccess_read _ hoff halign, State.busRead_update_rdata]

/-! ### The slot window (20_memory.md R64) -/

/-- Every aligned offset of the window is that of one limb of one slot. -/
theorem window_offset_eq {off : Nat} (hlow : windowBase ≤ off) (hhigh : off < Config.blockSize) (halign : off % 8 = 0) :
    windowSlot off < 256 ∧ windowLimb off < 6 ∧ off = windowBase + 48 * windowSlot off + 8 * windowLimb off := by
  unfold windowSlot windowLimb windowBase
  unfold windowBase at hlow
  unfold Config.blockSize at hhigh
  omega

/-- The window begins at an aligned offset, and a slot is six aligned limbs. -/
theorem window_offset_aligned (n l : Nat) : (windowBase + 48 * n + 8 * l) % 8 = 0 := by
  unfold windowBase
  omega

theorem State.busRead_window (s : State) {off : Nat} (h : windowBase ≤ off) :
    s.busRead off = limbOf (s.slot (windowSlot off)) (windowLimb off) := if_pos h

section window
variable {n l : Nat}

theorem windowSlot_offset (hl : l < 6) : windowSlot (windowBase + 48 * n + 8 * l) = n := by
  unfold windowSlot
  omega

theorem windowLimb_offset (hl : l < 6) : windowLimb (windowBase + 48 * n + 8 * l) = l := by
  unfold windowLimb
  omega

theorem window_offset_le (n l : Nat) : windowBase ≤ windowBase + 48 * n + 8 * l := by omega

/-- A read of the window returns the limb at the offset. -/
theorem State.busRead_limb (s : State) (hl : l < 6) :
    s.busRead (windowBase + 48 * n + 8 * l) = limbOf (s.slot n) l := by
  rw [State.busRead_window s (window_offset_le n l), windowSlot_offset hl, windowLimb_offset hl]

/-- A write to the window replaces the limb at the offset. -/
theorem State.busWrite_limb (s : State) (hl : l < 6) (v : Word) :
    s.busWrite (windowBase + 48 * n + 8 * l) v = s.setSlot n (setLimbOf (s.slot n) l v) := by
  rw [State.busWrite_window s (window_offset_le n l), windowSlot_offset hl, windowLimb_offset hl]

end window

/-- A replaced limb holds the new value, and every other bit its old one. -/
theorem setLimbOf_getLsbD (w : SlotWord) (l : Nat) (v : Word) {k : Nat} (hk : k < 384) :
    (setLimbOf w l v).getLsbD k = if 64 * l ≤ k ∧ k < 64 * l + 64 then v.getLsbD (k - 64 * l) else w.getLsbD k := by
  simp only [setLimbOf, BitVec.getLsbD_or, BitVec.getLsbD_and, BitVec.getLsbD_not, BitVec.getLsbD_shiftLeft,
    BitVec.getLsbD_setWidth, BitVec.getLsbD_allOnes, hk, show k - 64 * l < 384 by omega, decide_true, Bool.true_and]
  by_cases hlow : k < 64 * l
  · simp [hlow, Nat.not_le.mpr hlow]
  by_cases hhigh : k < 64 * l + 64
  · simp [hlow, hhigh, Nat.not_lt.mp hlow, show k - 64 * l < 64 by omega]
  · simp [hlow, hhigh, v.getLsbD_of_ge (k - 64 * l) (by omega), show ¬ k - 64 * l < 64 by omega]

/-- Settles O15: the read and the write of a limb, and the slot and limb that an offset names. -/
theorem slotWindowReachesOneLimb : Obligations.SlotWindowReachesOneLimb := by
  constructor
  · intro s n l v hn hl
    have hoff : windowBase + 48 * n + 8 * l < Config.blockSize := by
      unfold windowBase Config.blockSize
      omega
    have halign := window_offset_aligned n l
    refine ⟨?_, _, performAccess_write s hoff halign v, ?_, fun m hm => ?_, fun k hk => ?_⟩
    · rw [performAccess_read s hoff halign, State.busRead_limb s hl]
      rfl
    all_goals rw [State.busWrite_limb s hl]
    · rfl
    · exact s.slot_setSlot_other n m _ hm
    · rw [s.slot_setSlot_self n _ hn, setLimbOf_getLsbD _ _ _ hk]
  · intro off hlow hhigh halign
    exact ⟨_, _, window_offset_eq hlow hhigh halign⟩

/-! ### Byte order (20_memory.md R61) -/

/-- Byte `k` of the eight at an aligned offset is byte `k` of the register there. -/
theorem State.blockByte_register (s : State) {off k : Nat} (halign : off % 8 = 0) (hk : k < 8) :
    s.blockByte (off + k) = (s.busRead off).extractLsb' (8 * k) 8 := by
  have hmod : (off + k) % 8 = k := by omega
  rw [State.blockByte, hmod, Nat.add_sub_cancel]

/-- Byte `k` of limb `l` is byte 8l + k of the slot. -/
theorem limbOf_byte (w : SlotWord) (l : Nat) {k : Nat} (hk : k < 8) :
    (limbOf w l).extractLsb' (8 * k) 8 = w.extractLsb' (8 * (8 * l + k)) 8 := by
  ext i hi
  simp only [limbOf, BitVec.getElem_extractLsb', BitVec.getLsbD_extractLsb', show 8 * k + i < 64 by omega, decide_true,
    Bool.true_and]
  congr 1
  omega

/-- Byte `j` of a slot in the window is byte `j` of the slot word. -/
theorem State.blockByte_slot (s : State) (n : Nat) {j : Nat} (hj : j < 48) :
    s.blockByte (windowBase + 48 * n + j) = (s.slot n).extractLsb' (8 * j) 8 := by
  have hk : j % 8 < 8 := Nat.mod_lt _ (by decide)
  have hl : j / 8 < 6 := by omega
  have hoff : windowBase + 48 * n + j = windowBase + 48 * n + 8 * (j / 8) + j % 8 := by omega
  rw [hoff, s.blockByte_register (window_offset_aligned _ _) hk, s.busRead_limb hl, limbOf_byte _ _ hk, Nat.div_add_mod]

/-- The first `m` bytes of a number, lowest first, are the number modulo 2^(8m). -/
theorem wordOfBytes_bytes (x m : Nat) :
    wordOfBytes ((List.range m).map fun k => BitVec.ofNat 8 (x / 2 ^ (8 * k))) = x % 256 ^ m := by
  induction m generalizing x with
  | zero => simp [wordOfBytes, Nat.mod_one]
  | succ m ih =>
    have htail (k : Nat) : x / 2 ^ (8 * (k + 1)) = x / 256 / 2 ^ (8 * k) := by
      rw [Nat.div_div_eq_div_mul, Nat.mul_succ, Nat.pow_add, Nat.mul_comm]
    simp only [List.range_succ_eq_map, List.map_cons, List.map_map, Function.comp_def, Nat.succ_eq_add_one, htail, wordOfBytes, ih]
    rw [Nat.pow_succ', Nat.mod_mul]
    simp

/-- The eight bytes of a word, lowest address first, make the word. -/
theorem ofNat_wordOfBytes (w : Word) :
    BitVec.ofNat 64 (wordOfBytes ((List.range 8).map fun k => w.extractLsb' (8 * k) 8)) = w := by
  have hbyte (k : Nat) : w.extractLsb' (8 * k) 8 = BitVec.ofNat 8 (w.toNat / 2 ^ (8 * k)) := by
    rw [← Nat.shiftRight_eq_div_pow, BitVec.extractLsb']
  simp only [hbyte, wordOfBytes_bytes]
  rw [Nat.mod_eq_of_lt (b := 256 ^ 8) (by simpa using w.isLt), BitVec.ofNat_toNat, BitVec.setWidth_eq]

/-- Settles O16: bytes of a slot, bytes of a register, and the word that eight bytes make. -/
theorem blockBytesAreLittleEndian : Obligations.BlockBytesAreLittleEndian :=
  ⟨fun s => ⟨fun n _ _ hj => s.blockByte_slot n hj, fun _ halign _ hk => s.blockByte_register halign hk⟩,
    fun w => congrArg decode (ofNat_wordOfBytes w)⟩

/-! ### Held accesses (20_memory.md R66) -/

/-- An access is improper when it is not 8 bytes wide or not 8-byte aligned. -/
theorem Access.proper_eq_false_iff (x : Access) : x.proper = false ↔ x.width ≠ 8 ∨ x.off % 8 ≠ 0 := by
  simp only [Access.proper, Bool.and_eq_false_iff, beq_eq_false_iff_ne]

theorem Access.held_read_iff (off width : Nat) :
    (Access.read off width).held = true ↔ windowBase ≤ off ∨ width ≠ 8 ∨ off % 8 ≠ 0 := by
  simp only [Access.held, Bool.not_eq_true', Bool.and_eq_false_iff, Access.proper_eq_false_iff, decide_eq_false_iff_not, Nat.not_lt]
  exact or_comm

theorem Access.held_write_iff (off width : Nat) (v : Word) :
    (Access.write off width v).held = true ↔
      windowBase ≤ off ∨ width ≠ 8 ∨ off % 8 ≠ 0 ∨ off ∈ [0x008, 0x010, 0x018, 0x028] := by
  simp only [Access.held, Bool.or_eq_true, Bool.not_eq_true', Bool.and_eq_false_iff, Access.proper_eq_false_iff,
    decide_eq_false_iff_not, Nat.not_lt, List.contains_iff_mem]
  simp only [Access.width, Access.off]
  tauto

/-- Behind held accesses the first that is not held is found, and the others keep their order. -/
theorem takeUnheld_append {pre : List Access} {x : Access} (post : List Access) (hpre : ∀ y ∈ pre, y.held = true)
    (hx : x.held = false) : takeUnheld (pre ++ x :: post) = some (x, pre ++ post) := by
  induction pre with
  | nil => simp [takeUnheld, hx]
  | cons y ys ih =>
    obtain ⟨hy, hys⟩ := List.forall_mem_cons.mp hpre
    simp [takeUnheld, hy, ih hys]

theorem step_of_busy {s : State} {w : Word} (hbusy : s.inflight = some w) : step s = busyStep w s := by
  rw [step, hbusy]

theorem step_of_idle {s : State} (hidle : s.inflight = none) : step s = idleStep s := by
  rw [step, hidle]

/-- A busy step performs the oldest access that is not held. -/
theorem step_of_unheld {s : State} {w : Word} {pre post : List Access} {x : Access} (hbusy : s.inflight = some w)
    (hpre : ∀ y ∈ pre, y.held = true) (hx : x.held = false) (hpending : s.pending = pre ++ x :: post) :
    step s = performAccess x { s with pending := pre ++ post } := by
  rw [step_of_busy hbusy]
  simp only [busyStep, hpending, takeUnheld_append post hpre hx]

/-- While every waiting access is held, the time of the command in flight runs. -/
theorem step_of_wait {s : State} {w : Word} {n : Nat} (hbusy : s.inflight = some w) (hheld : ∀ x ∈ s.pending, x.held = true)
    (hwait : s.wait = n + 1) : step s = .next { s with wait := n } := by
  rw [step_of_busy hbusy]
  simp only [busyStep, (takeUnheld_none _).mpr hheld, hwait]

/-- Settles O21: a busy step is fixed by the first access that is not held, or else by the time that is left; an idle step by the
oldest access. -/
theorem runningCommandHoldsAccesses : Obligations.RunningCommandHoldsAccesses := by
  refine ⟨fun s w pre post off hbusy hpre halign hlow => ⟨fun hpending => ?_, fun v hpending hreg => ?_⟩,
    fun _ _ _ => step_of_wait, fun s x rest hidle hpending => ?_, fun s hidle hpending => ?_,
    fun off width v => ⟨Access.held_read_iff off width, Access.held_write_iff off width v⟩⟩
  · have hx : (Access.read off 8).held = false := by
      rw [← Bool.not_eq_true, Access.held_read_iff]
      simp [hlow, halign]
    rw [step_of_unheld hbusy hpre hx hpending, performAccess_read _ (hlow.trans (by decide)) halign, State.busRead_update_pending]
  · have hx : (Access.write off 8 v).held = false := by
      rw [← Bool.not_eq_true, Access.held_write_iff]
      simp only [hreg, halign, Nat.not_le.mpr hlow, ne_eq, not_true, or_self, not_false_eq_true]
    rw [step_of_unheld hbusy hpre hx hpending, performAccess_write _ (hlow.trans (by decide)) halign,
      State.busWrite_ignored _ hlow hreg]
  · rw [step_of_idle hidle, idleStep, hpending]
  · rw [step_of_idle hidle, idleStep, hpending]

/-! ### How accesses arrive (20_memory.md R62, R67, R69) -/

/-- Accesses that arrive in the block keep the invariant. -/
theorem State.Inv.arrive {s : State} (hs : s.Inv) {xs : List Access} (hxs : ∀ x ∈ xs, x.off < Config.blockSize) :
    State.Inv { s with pending := s.pending ++ xs } :=
  ⟨hs.entropy, hs.noError, hs.errorCode, hs.commandError, hs.accessError, hs.running, fun x hx =>
    (List.mem_append.mp hx).elim (hs.arrived x) (hxs x)⟩

/-- Every access of a host access lies in the block, if each part keeps the offset it is made at. -/
theorem off_lt_of_mem_beats {addr width : Nat} {mk : Nat → Nat → Nat → Access} (hmk : ∀ off n k, (mk off n k).off = off)
    {x : Access} (hx : x ∈ beats addr width mk) : x.off < Config.blockSize := by
  obtain ⟨p, -, off, hoff, -, rfl⟩ := mem_beats addr width mk x hx
  rwa [hmk]

/-- Every part of a host access starts at its address or within its width. -/
theorem mem_busParts {addr width : Nat} {p : Nat × Nat × Nat} (hp : p ∈ busParts addr width) :
    addr ≤ p.1 ∧ (p.1 = addr ∨ p.1 < addr + width) := by
  unfold busParts at hp
  split at hp
  · obtain ⟨k, hk, rfl⟩ := List.mem_map.mp hp
    have := List.mem_range.mp hk
    simp only
    omega
  · obtain rfl := List.mem_singleton.mp hp
    exact ⟨le_rfl, .inl rfl⟩

/-- Nothing of a host access outside the block is seen. -/
theorem beats_outside {addr width : Nat} (mk : Nat → Nat → Nat → Access)
    (hout : addr < Config.base ∧ addr + width ≤ Config.base ∨ Config.base + Config.blockSize ≤ addr) :
    beats addr width mk = [] := by
  refine List.eq_nil_iff_forall_not_mem.mpr fun x hx => ?_
  obtain ⟨p, hp, off, hoff, haddr, -⟩ := mem_beats addr width mk x hx
  have := mem_busParts hp
  omega

/-- An access of 8 bytes leaves the bus in one part. -/
theorem busParts_word (addr : Nat) : busParts addr 8 = [(addr, 8, 0)] := by
  simp [busParts]

/-- A wide access is split into its 8-byte beats where the bus splits. -/
theorem busParts_split (hsplit : Config.busSplits = true) (addr : Nat) {n : Nat} (hn : 1 < n) :
    busParts addr (8 * n) = (List.range n).map fun k => (addr + 8 * k, 8, k) := by
  simp [busParts, hsplit, show 8 < 8 * n by omega]

/-- Every access is one part where the bus does not split. -/
theorem busParts_whole (hwhole : Config.busSplits = false) (addr width : Nat) : busParts addr width = [(addr, width, 0)] := by
  simp [busParts, hwhole]

/-- The host addresses of the block. -/
abbrev InBlock (x : Nat) : Prop := Config.base ≤ x ∧ x < Config.base + Config.blockSize

/-- One part arrives if its address is in the block. -/
theorem beats_of_one_part {addr width : Nat} (hparts : busParts addr width = [(addr, width, 0)])
    (mk : Nat → Nat → Nat → Access) :
    beats addr width mk = if InBlock addr then [mk (addr - Config.base) width 0] else [] := by
  unfold beats blockOffset
  rw [hparts]
  split_ifs with hin <;> simp [hin]

/-- An 8-byte access to the block arrives as one access at its offset. -/
theorem beats_word {off : Nat} (hoff : off < Config.blockSize) (mk : Nat → Nat → Nat → Access) :
    beats (Config.base + off) 8 mk = [mk off 8 0] := by
  rw [beats_of_one_part (busParts_word _), if_pos (by unfold InBlock; omega), Nat.add_sub_cancel_left]

/-- Of a split access arrive the beats whose address is in the block, lowest address first. -/
theorem beats_split (hsplit : Config.busSplits = true) (addr : Nat) {n : Nat} (hn : 1 < n) (mk : Nat → Nat → Nat → Access) :
    beats addr (8 * n) mk = (List.range n).filterMap fun k =>
      if InBlock (addr + 8 * k) then some (mk (addr + 8 * k - Config.base) 8 k) else none := by
  unfold beats blockOffset
  rw [busParts_split hsplit addr hn, List.filterMap_map]
  refine List.filterMap_congr fun k _ => ?_
  simp only [Function.comp_apply]
  split_ifs <;> rfl

/-- Settles O8: the parts in which an access leaves the bus, for either platform, and those of them the block sees. -/
theorem arrivingAccessesKeepTheInvariant : Obligations.ArrivingAccessesKeepTheInvariant := by
  intro s addr width v
  refine ⟨fun hs => ⟨?_, ?_⟩, fun hout => ?_, fun off hoff => ?_, fun n hn => ?_⟩
  · exact hs.arrive fun _ => off_lt_of_mem_beats fun _ _ _ => rfl
  · exact hs.arrive fun _ => off_lt_of_mem_beats fun _ _ _ => rfl
  · simp only [State.hostRead, State.hostWrite, beats_outside _ hout, List.append_nil, and_self]
  · simp only [State.hostRead, State.hostWrite, beats_word hoff, Nat.mul_zero, Nat.pow_zero, Nat.div_one, and_self]
  · cases hsplit : Config.busSplits with
    | true =>
      left
      simp only [State.hostRead, State.hostWrite, beats_split hsplit addr hn, and_self]
    | false =>
      right
      have hparts := busParts_whole hsplit addr (8 * n)
      simp only [State.hostRead, State.hostWrite, beats_of_one_part hparts, Nat.mul_zero, Nat.pow_zero, Nat.div_one]
      split_ifs <;> simp

end Sys2Proof.Machine


/-! SUPPORT. Words and commands: the row of an opcode and the encoder agree, so that decoding undoes encoding, encoding undoes
decoding, and the words that decode are exactly the legal ones. -/

namespace Sys2Proof

/-! ### From a command to its word -/

section
open Laws Laws.OpcodeAndFields

/-- Every command's word fills the row of its opcode (30_encoding.md R90, R94, R101). -/
theorem encode_fills_row : ∀ i : Instr, OpcodeAndFields.Statement i
  | .nop => nop | .ldc d imm => ldc d imm | .mov d a imm => mov d a imm | .clr d imm => clr d imm
  | .fqAdd d a b => fqAdd d a b | .fqSub d a b => fqSub d a b | .fqNeg d a => fqNeg d a | .fqMul d a b => fqMul d a b
  | .fqSqr d a => fqSqr d a | .fqExp d a b imm => fqExp d a b imm | .fqInv d a => fqInv d a
  | .fqFromint d a => fqFromint d a | .fqToint d a => fqToint d a | .fqEq a b => fqEq a b | .fqRand d => fqRand d
  | .frAdd d a b => frAdd d a b | .frSub d a b => frSub d a b | .frNeg d a => frNeg d a | .frMul d a b => frMul d a b
  | .frSqr d a => frSqr d a | .frExp d a b imm => frExp d a b imm | .frInv d a => frInv d a
  | .frFromint d a => frFromint d a | .frToint d a => frToint d a | .frEq a b => frEq a b | .frRand d => frRand d
  | .fq2Add d a b => fq2Add d a b | .fq2Sub d a b => fq2Sub d a b | .fq2Neg d a => fq2Neg d a
  | .fq2Mul d a b => fq2Mul d a b | .fq2Sqr d a => fq2Sqr d a | .fq2Inv d a => fq2Inv d a | .fq2Conj d a => fq2Conj d a
  | .fq2Mulxi d a => fq2Mulxi d a | .fq2Frob d a imm => fq2Frob d a imm | .fq2Eq a b => fq2Eq a b
  | .fq6Add d a b => fq6Add d a b | .fq6Sub d a b => fq6Sub d a b | .fq6Neg d a => fq6Neg d a
  | .fq6Mul d a b => fq6Mul d a b | .fq6Sqr d a => fq6Sqr d a | .fq6Inv d a => fq6Inv d a | .fq6Mulnr d a => fq6Mulnr d a
  | .fq6Spmul01 d a b => fq6Spmul01 d a b | .fq6Frob d a imm => fq6Frob d a imm | .fq6Eq a b => fq6Eq a b
  | .fq12Add d a b => fq12Add d a b | .fq12Sub d a b => fq12Sub d a b | .fq12Neg d a => fq12Neg d a
  | .fq12Mul d a b => fq12Mul d a b | .fq12Sqr d a => fq12Sqr d a | .fq12Inv d a => fq12Inv d a
  | .fq12Conj d a => fq12Conj d a | .fq12Spmul014 d a b => fq12Spmul014 d a b | .fq12Frob d a imm => fq12Frob d a imm
  | .fq12Eq a b => fq12Eq a b | .fq12Exp d a b imm => fq12Exp d a b imm | .g1Add d a b => g1Add d a b
  | .g1Dbl d a => g1Dbl d a | .g1Neg d a => g1Neg d a | .g1Smul d a b => g1Smul d a b | .g1Smulglv d a b => g1Smulglv d a b
  | .g1Toaff d a => g1Toaff d a | .g1Eq a b => g1Eq a b | .g1Endo d a => g1Endo d a | .g1Fromaff d a => g1Fromaff d a
  | .g1Ident d => g1Ident d | .g2Add d a b => g2Add d a b | .g2Dbl d a => g2Dbl d a | .g2Neg d a => g2Neg d a
  | .g2Smul d a b => g2Smul d a b | .g2Smulgls d a b => g2Smulgls d a b | .g2Toaff d a => g2Toaff d a
  | .g2Eq a b => g2Eq a b | .g2Psi d a => g2Psi d a | .g2Fromaff d a => g2Fromaff d a | .g2Ident d => g2Ident d
  | .linedbl d a b => linedbl d a b | .lineadd d a b => lineadd d a b | .miller d a b => miller d a b
  | .finexp d a => finexp d a | .pair d a b => pair d a b | .latDecomp1 d a => latDecomp1 d a
  | .latDecomp2 d a => latDecomp2 d a

end

/-- Every field that the row leaves unused is zero (30_encoding.md R94). -/
def Form.Fits (r : Form) (f : Fields) : Prop :=
  (r.usesD = false → f.d = 0) ∧ (r.usesA = false → f.a = 0) ∧ (r.usesB = false → f.b = 0) ∧ (r.usesImm = false → f.imm = 0)

theorem unusedField_eq_none (r : Form) (f : Fields) : unusedField r f = none ↔ r.Fits f := by
  simp [unusedField, Form.Fits, ite_eq_iff]

/-- Fields decode to a command exactly when the high bits are zero and the row of OP fits the fields and makes this command of
them, with a legal word (30_encoding.md R102). -/
theorem decodeFields_eq_ok (f : Fields) (i : Instr) :
    decodeFields f = .ok i ↔ f.high = 0 ∧ i.wellFormed = true ∧ ∃ r, formOf f.op.toNat = some r ∧ r.Fits f ∧ r.make f = i := by
  by_cases hhigh : f.high = 0#24
  · cases hrow : formOf f.op.toNat with
    | none => simp [decodeFields, hhigh, hrow]
    | some r =>
      by_cases hfits : r.Fits f
      · have hunused := (unusedField_eq_none r f).mpr hfits
        by_cases hi : r.make f = i <;> simp [decodeFields, hhigh, hrow, hunused, hfits, hi, ite_eq_iff]
      · obtain ⟨x, hx⟩ := Option.ne_none_iff_exists'.mp (mt (unusedField_eq_none r f).mp hfits)
        simp [decodeFields, hhigh, hrow, hx, hfits]
  · simp [decodeFields, hhigh]

/-- Settles O1: the word of a command fills the command's row, which is what decoding checks. -/
theorem decodeOfEncodeIsTheCommand : Obligations.DecodeOfEncodeIsTheCommand := by
  intro i hwf
  obtain ⟨hhigh, r, hrow, hunused, hmake⟩ := encode_fills_row i
  exact (decodeFields_eq_ok _ i).mpr ⟨hhigh, hwf, r, hrow, (unusedField_eq_none r _).mp hunused, hmake⟩

/-! ### From a word to its command -/

/-- The encoder of a row's command: the OP of the row, the fields the row uses, and zero for the others (30_encoding.md R94, R101). -/
theorem encode_make {n : Nat} {r : Form} (hrow : formOf n = some r) (f : Fields) :
    encode (r.make f) = encodeWord (BitVec.ofNat 8 n) (if r.usesD then f.d else 0) (if r.usesA then f.a else 0)
      (if r.usesB then f.b else 0) (if r.usesImm then f.imm else 0) := by
  unfold formOf at hrow
  split at hrow <;> cases hrow <;> rfl

/-- Masking a field that is zero where it is unused changes nothing. -/
theorem field_of_unused {used : Bool} {x : BitVec 8} (h : used = false → x = 0) : (if used then x else 0) = x := by
  cases used <;> simp [h]

/-- No bit is ignored: where the row fits the fields, its command's word has exactly these fields (30_encoding.md R92, R94). -/
theorem encode_make_of_fits {f : Fields} {r : Form} (hhigh : f.high = 0) (hrow : formOf f.op.toNat = some r) (hfits : r.Fits f) :
    encode (r.make f) = pack f := by
  obtain ⟨hd, ha, hb, himm⟩ := hfits
  rw [encode_make hrow, field_of_unused hd, field_of_unused ha, field_of_unused hb, field_of_unused himm, encodeWord,
    BitVec.ofNat_toNat, BitVec.setWidth_eq, ← hhigh]

/-- Settles O2: the command's word has all fields of the decoded word, and a word is its fields. -/
theorem decodedWordIsTheOneEncoding : Obligations.DecodedWordIsTheOneEncoding := by
  intro w i h
  obtain ⟨hhigh, hwf, r, hrow, hfits, rfl⟩ := (decodeFields_eq_ok _ _).mp h
  exact ⟨(encode_make_of_fits hhigh hrow hfits).trans (pack_unpack w), hwf⟩

end Sys2Proof

namespace Sys2Proof.Machine

/-! ### The words that are no command (60_exceptions.md R321) -/

/-- The opcodes with a row are those in the ranges of 30_encoding.md R101. -/
theorem formOf_isSome_iff (op : BitVec 8) :
    (formOf op.toNat).isSome = true ↔ ∃ r ∈ opcodeRanges, r.1 ≤ op.toNat ∧ op.toNat ≤ r.2 := by
  revert op
  decide +kernel

/-- Of the commands that rows make, only LDC with an index above 13 has no legal word (30_encoding.md R95). -/
theorem wellFormed_make_iff {n : Nat} {r : Form} (hrow : formOf n = some r) (f : Fields) :
    (r.make f).wellFormed = true ↔ ¬ (n = 0x01 ∧ 13 < f.imm.toNat) := by
  unfold formOf at hrow
  split at hrow <;> cases hrow
  case h_2 => simp [Instr.wellFormed]
  all_goals exact iff_of_true rfl (by simp)

/-- Each of the four causes keeps a word from decoding (30_encoding.md R102). -/
theorem IllegalWord.not_decodes {w : Word} (h : IllegalWord w) (i : Instr) : decode w ≠ .ok i := by
  intro hdec
  obtain ⟨hhigh, hwf, r, hrow, ⟨hd, ha, hb, himm⟩, rfl⟩ := (decodeFields_eq_ok _ _).mp hdec
  obtain hne | hreserved | ⟨r', hrow', hused⟩ | ⟨hop, hindex⟩ := h
  · exact hne hhigh
  · obtain ⟨p, hp, hin⟩ := (formOf_isSome_iff (unpack w).op).mp (hrow ▸ rfl)
    exact hreserved p hp hin
  · cases hrow.symm.trans hrow'
    obtain ⟨hu, hne⟩ | ⟨hu, hne⟩ | ⟨hu, hne⟩ | ⟨hu, hne⟩ := hused
    exacts [hne (hd hu), hne (ha hu), hne (hb hu), hne (himm hu)]
  · exact (wellFormed_make_iff hrow (unpack w)).mp hwf ⟨congrArg BitVec.toNat hop, hindex⟩

/-- A word with none of the four causes decodes (30_encoding.md R102). -/
theorem decodes_of_legal {w : Word} (h : ¬ IllegalWord w) : ∃ i, decode w = .ok i := by
  simp only [IllegalWord, not_or] at h
  obtain ⟨hhigh, hlisted, hused, hldc⟩ := h
  obtain ⟨r, hrow⟩ : ∃ r, formOf (unpack w).op.toNat = some r := by
    rw [← Option.isSome_iff_exists, formOf_isSome_iff]
    simpa [unpack] using hlisted
  have hwf := (wellFormed_make_iff hrow (unpack w)).mpr fun hindex => hldc ⟨BitVec.eq_of_toNat_eq hindex.1, hindex.2⟩
  have hfits : r.Fits (unpack w) :=
    ⟨fun hu => by_contra fun hne => hused ⟨r, hrow, .inl ⟨hu, hne⟩⟩,
      fun hu => by_contra fun hne => hused ⟨r, hrow, .inr (.inl ⟨hu, hne⟩)⟩,
      fun hu => by_contra fun hne => hused ⟨r, hrow, .inr (.inr (.inl ⟨hu, hne⟩))⟩,
      fun hu => by_contra fun hne => hused ⟨r, hrow, .inr (.inr (.inr ⟨hu, hne⟩))⟩⟩
  exact ⟨_, (decodeFields_eq_ok _ _).mpr ⟨not_not.mp hhigh, hwf, r, hrow, hfits, rfl⟩⟩

/-- A command that raises an error at once records it and writes nothing (60_exceptions.md R324, R326). -/
theorem State.raise_fails (s : State) (c : ErrCode) : s.Fails (.next (s.raise c)) c := s.finishSlots_error 0 c

/-- Settles O4: the illegal words are those that do not decode, and running one of these raises the error. -/
theorem illegalWordsRaiseIllegalCommand : Obligations.IllegalWordsRaiseIllegalCommand := by
  intro w s
  constructor
  · intro hillegal
    cases hdec : decode w with
    | ok i => exact absurd hdec (hillegal.not_decodes i)
    | error e => rw [runCommand, hdec]; exact s.raise_fails _
  · intro hlegal
    obtain ⟨i, hdec⟩ := decodes_of_legal hlegal
    exact ⟨i, (decodedWordIsTheOneEncoding w i hdec).1, by rw [runCommand, hdec]⟩

end Sys2Proof.Machine

/-! SUPPORT. The checks that every command makes before it computes: the slot range of its operands, then the read of each source
operand in order (30_encoding.md R97; 60_exceptions.md R322). -/

namespace Sys2Proof

/-- A command whose row does not use D has only sources. -/
theorem Instr.sources_of_not_usesD {i : Instr} {op : BitVec 8} {d a b : SlotNo} {imm : Imm} {r : Form}
    (he : encode i = encodeWord op d a b imm) (hr : formOf op.toNat = some r) (hd : r.usesD = false) : i.sources = i.operands := by
  rw [Instr.sources, Instr.writesSlots_of_row he hr, hd]
  rfl

end Sys2Proof

namespace Sys2Proof.Machine

/-! ### Reads of one operand -/

/-- The result of reading an operand of kind `k` at slot `n`: exactly the operand's read error, if it has one. -/
def State.Reads {α : Type} (s : State) (imm : Imm) (n : Nat) (k : Kind) (res : Result α) : Prop :=
  ∀ c, s.kindError imm n k = some c ↔ res = .error c

section reads
variable {α β : Type} {s : State} {imm : Imm} {n : Nat}

/-- A read with one check reads an operand whose kind asks for this check and names this error. -/
theorem State.reads_readAs {k : Kind} {p : Bool} {e : ErrCode} (v : α)
    (hk : s.kindError imm n k = if p then none else some e) : s.Reads imm n k (readAs p v e) := by
  intro c
  rw [hk]
  cases p <;> simp

@[simp] theorem State.reads_fq : s.Reads imm n .fq (s.readFq n) := s.readFq_as n ▸ State.reads_readAs _ rfl
@[simp] theorem State.reads_fq2 : s.Reads imm n .fq2 (s.readFq2 n) := s.readFq2_eq n ▸ State.reads_readAs _ rfl
@[simp] theorem State.reads_fq6 : s.Reads imm n .fq6 (s.readFq6 n) := s.readFq6_eq n ▸ State.reads_readAs _ rfl
@[simp] theorem State.reads_fq12 : s.Reads imm n .fq12 (s.readFq12 n) := s.readFq12_eq n ▸ State.reads_readAs _ rfl
@[simp] theorem State.reads_g1 : s.Reads imm n .g1 (s.readG1 n) := s.readG1_eq n ▸ State.reads_readAs _ rfl
@[simp] theorem State.reads_af1 : s.Reads imm n .af1 (s.readAff1 n) := s.readAff1_eq n ▸ State.reads_readAs _ rfl
@[simp] theorem State.reads_af2 : s.Reads imm n .af2 (s.readAff2 n) := s.readAff2_eq n ▸ State.reads_readAs _ rfl
@[simp] theorem State.reads_sp6 : s.Reads imm n .sp6 (s.readSp6 n) := s.readSp6_eq n ▸ State.reads_readAs _ rfl
@[simp] theorem State.reads_sp12 : s.Reads imm n .sp12 (s.readSp12 n) := s.readSp12_eq n ▸ State.reads_readAs _ rfl

/-- A word of Fr is canonical in all of its 384 bits (10_state.md R23). -/
@[simp] theorem State.reads_fr : s.Reads imm n .fr (s.readFr n) := by
  intro c
  rw [State.readFr_eq]
  by_cases hcanon : s.canonFr n <;> simp [State.kindError, hcanon]

/-- A G2 point is canonical before T = Z·Z is checked (10_state.md R26). -/
@[simp] theorem State.reads_g2 : s.Reads imm n .g2 (s.readG2 n) := by
  by_cases hcanon : s.allFq n 8 = true
  · rw [State.readG2_eq, if_pos hcanon]
    exact State.reads_readAs _ (by simp [State.kindError, hcanon])
  · rw [State.readG2_eq, if_neg hcanon]
    exact fun c => by simp [State.kindError, hcanon]

/-! ### Reads of all source operands -/

/-- The result is the first read error of the operands, if one of them has one (60_exceptions.md R322). -/
def State.ReadsInOrder (s : State) (imm : Imm) (os : List (SlotNo × Kind)) (res : Result α) : Prop :=
  ∀ c, s.readError imm os = some c → res = .error c

variable {os : List (SlotNo × Kind)} {a : SlotNo} {k : Kind}

/-- With no operand left nothing is asked of what the command computes. -/
theorem State.ReadsInOrder.done {res : Result α} : s.ReadsInOrder imm [] res := nofun

theorem State.ReadsInOrder.read {ra : Result α} {f : α → Result β} (hra : s.Reads imm a.toNat k ra)
    (hf : ∀ x, s.ReadsInOrder imm os (f x)) : s.ReadsInOrder imm ((a, k) :: os) (ra >>= f) := by
  intro c hc
  rw [State.readError] at hc
  cases ra with
  | error c' =>
    rw [(hra c').mpr rfl] at hc
    cases hc
    rfl
  | ok x =>
    have hreadable : s.kindError imm a.toNat k = none := Option.eq_none_iff_forall_ne_some.mpr fun c' hc' => nomatch (hra c').mp hc'
    rw [hreadable] at hc
    exact hf x c hc

/-- Integer, exponent and raw operands have no read error (10_state.md R28, R29). -/
theorem State.ReadsInOrder.raw {res : Result α} (hk : s.kindError imm a.toNat k = none) (hres : s.ReadsInOrder imm os res) :
    s.ReadsInOrder imm ((a, k) :: os) res := by
  intro c hc
  rw [State.readError, hk] at hc
  exact hres c hc

/-- A check that fails, first or later, is the error of the whole if all of them name the same error. -/
theorem readAs_bind_error {p q : Bool} {x : α} {e : ErrCode} {f : α → Result β} (hpq : (p && q) = false)
    (hf : q = false → ∀ x, f x = .error e) : readAs p x e >>= f = .error e := by
  cases p with
  | false => rfl
  | true => exact hf hpq x

/-- LINEADD reads the parts of its LA operand one after the other (45_pairing.md R304). -/
theorem State.ReadsInOrder.la (f : Fq2 → Fq2 → Fq → Fq → Result α) :
    s.ReadsInOrder imm [(a, .la)] (do
      let xQ ← s.readFq2 a.toNat
      let yQ ← s.readFq2 (a.toNat + 2)
      let xP ← s.readFq (a.toNat + 4)
      let yP ← s.readFq (a.toNat + 5)
      f xQ yQ xP yP) := by
  intro c hc
  have hparts : s.allFq a.toNat 6 =
      (s.allFq a.toNat 2 && (s.allFq (a.toNat + 2) 2 && (s.allFq (a.toNat + 4) 1 && s.allFq (a.toNat + 5) 1))) := by
    rw [State.allFq_add s _ 2 4, State.allFq_add s (a.toNat + 2) 2 2, State.allFq_add s (a.toNat + 4) 1 1]
  cases hcanon : s.allFq a.toNat 6 with
  | true => simp [State.readError, State.kindError, Kind.size, hcanon] at hc
  | false =>
    obtain rfl : .noncanonical = c := by simpa [State.readError, State.kindError, Kind.size, hcanon] using hc
    rw [State.readFq2_eq, State.readFq2_eq, State.readFq_as, State.readFq_as]
    exact readAs_bind_error (hparts.symm.trans hcanon) fun h _ => readAs_bind_error h fun h _ => readAs_bind_error h fun h _ => by
      rw [h, readAs_false, result_error_bind]

end reads

/-! ### The checks of a command -/

section checks
variable {s : State} {i : Instr} {c : ErrCode} {op : BitVec 8} {d e a b : SlotNo} {imm : Imm} {r : Form}

/-- The first error of a command comes from its range check, or, if that passes, from the reads of its sources. -/
theorem State.operandError_cases (h : s.operandError i = some c) :
    checkSlots i.immField i.operands = .error c ∨
      checkSlots i.immField i.operands = .ok () ∧ s.readError i.immField i.sources = some c := by
  rw [State.operandError, Instr.slotsOk] at h
  rw [checkSlots_eq]
  split at h
  next hslots => exact .inr ⟨if_pos hslots, h⟩
  next hslots => cases h; exact .inl (if_neg hslots)

/-- A command that makes the range check and then reads its sources in order computes its first error. -/
theorem checked_error {α : Type} {res : Result α} (h : s.operandError i = some c) (hres : s.ReadsInOrder i.immField i.sources res) :
    (do checkSlots i.immField i.operands; res) = .error c := by
  obtain hrange | ⟨hrange, hread⟩ := State.operandError_cases h <;> rw [hrange]
  · rfl
  · exact hres c hread

/-- The range check is all that can fail in a command without sources. -/
theorem checkSlots_error (h : s.operandError i = some c) (hs : i.sources = []) : checkSlots i.immField i.operands = .error c := by
  obtain hrange | ⟨-, hread⟩ := State.operandError_cases h
  · exact hrange
  · rw [hs] at hread
    cases hread

/-- A command that writes slots fails with its first error if it checks its range, reads its sources and then does the rest. -/
theorem State.finishSlots_fails {res body : Result (List SlotWord)} (h : s.operandError i = some c)
    (hres : res = do checkSlots i.immField i.operands; body) (he : encode i = encodeWord op e a b imm)
    (hr : formOf op.toNat = some r) (hd : r.usesD = true) (hbody : s.ReadsInOrder i.immField (i.operands.drop 1) body) :
    s.Fails (s.finishSlots d res) c := by
  rw [hres, checked_error h (Instr.sources_of_usesD he hr hd ▸ hbody)]
  exact s.finishSlots_error d c

/-- The same for a command that writes no slots: all of its operands are sources. -/
theorem State.finishEq_fails {res body : Result Bool} (h : s.operandError i = some c)
    (hres : res = do checkSlots i.immField i.operands; body) (he : encode i = encodeWord op e a b imm)
    (hr : formOf op.toNat = some r) (hd : r.usesD = false) (hbody : s.ReadsInOrder i.immField i.operands body) :
    s.Fails (s.finishEq res) c := by
  rw [hres, checked_error h (Instr.sources_of_not_usesD he hr hd ▸ hbody)]
  exact s.finishEq_error c

/-- NOP has no operand. -/
theorem operandError_nop (s : State) : s.operandError .nop = none := by
  rw [State.operandError, Instr.sources_of_not_usesD rfl rfl rfl]
  rfl

/-- A constant with a legal index has words (40_control.md R131; 30_encoding.md R95). -/
theorem romWords_of_wellFormed (h : (Instr.ldc d imm).wellFormed = true) : ∃ ws, romWords imm = some ws := by
  have himm : imm.toNat ≤ 13 := of_decide_eq_true h
  unfold romWords
  interval_cases imm.toNat <;> exact ⟨_, rfl⟩

theorem execLdc_fails (hwf : (Instr.ldc d imm).wellFormed = true) (h : s.operandError (.ldc d imm) = some c) :
    s.Fails (execLdc d imm s) c := by
  obtain ⟨ws, hws⟩ := romWords_of_wellFormed hwf
  rw [execLdc, hws]
  exact State.finishSlots_fails h rfl rfl rfl rfl .done

theorem execFqRand_fails (h : s.operandError (.fqRand d) = some c) : s.Fails (execFqRand d s) c := by
  rw [execFqRand, show checkSlots 0 [(d, .fq)] = .error c from checkSlots_error h (Instr.sources_of_usesD rfl rfl rfl)]
  exact s.raise_fails c

theorem execFrRand_fails (h : s.operandError (.frRand d) = some c) : s.Fails (execFrRand d s) c := by
  rw [execFrRand, show checkSlots 0 [(d, .fr)] = .error c from checkSlots_error h (Instr.sources_of_usesD rfl rfl rfl)]
  exact s.raise_fails c

end checks

/-- Settles O25: every command makes its range check and then reads its sources in order, before anything else; the commands are
grouped by how many sources they read. -/
theorem firstOperandErrorIsRaised : Obligations.FirstOperandErrorIsRaised := by
  intro s i c hwf h
  cases i with
  | nop => exact absurd h (operandError_nop s ▸ nofun)
  | ldc => exact execLdc_fails hwf h
  | fqRand => exact execFqRand_fails h
  | frRand => exact execFrRand_fails h
  | clr | g1Ident | g2Ident => exact State.finishSlots_fails h rfl rfl rfl rfl .done
  | mov | fqFromint | frFromint | latDecomp1 | latDecomp2 => exact State.finishSlots_fails h rfl rfl rfl rfl (.raw rfl .done)
  | fqNeg | fqSqr | fqInv | fqToint | frNeg | frSqr | frInv | frToint
  | fq2Neg | fq2Sqr | fq2Inv | fq2Conj | fq2Mulxi | fq2Frob
  | fq6Neg | fq6Sqr | fq6Inv | fq6Mulnr | fq6Frob
  | fq12Neg | fq12Sqr | fq12Inv | fq12Conj | fq12Frob
  | g1Dbl | g1Neg | g1Toaff | g1Endo | g1Fromaff
  | g2Dbl | g2Neg | g2Toaff | g2Psi | g2Fromaff | finexp =>
    exact State.finishSlots_fails h rfl rfl rfl rfl (.read (by simp) fun _ => .done)
  | fqExp | frExp | fq12Exp | g1Smul | g1Smulglv | g2Smul | g2Smulgls =>
    exact State.finishSlots_fails h rfl rfl rfl rfl (.read (by simp) fun _ => .raw rfl .done)
  | fqAdd | fqSub | fqMul | frAdd | frSub | frMul
  | fq2Add | fq2Sub | fq2Mul | fq6Add | fq6Sub | fq6Mul | fq6Spmul01
  | fq12Add | fq12Sub | fq12Mul | fq12Spmul014 | g1Add | g2Add | linedbl | miller | pair =>
    exact State.finishSlots_fails h rfl rfl rfl rfl (.read (by simp) fun _ => .read (by simp) fun _ => .done)
  | lineadd => exact State.finishSlots_fails h rfl rfl rfl rfl (.read (by simp) fun _ => .la _)
  | fqEq | frEq | fq2Eq | fq6Eq | fq12Eq | g1Eq | g2Eq =>
    exact State.finishEq_fails h rfl rfl rfl rfl (.read (by simp) fun _ => .read (by simp) fun _ => .done)

end Sys2Proof.Machine

/-! SUPPORT. The control commands (40_control.md R130 to R134): the range check of their runs, the run MOV reads, and the words LDC
takes from the ROM. -/

namespace Sys2Proof.Machine

section ranges
variable {s : State} {i : Instr} {imm : Imm} {o : SlotNo × Kind} {os : List (SlotNo × Kind)}

/-- The range check passes when every operand ends inside the slot file (30_encoding.md R97). -/
theorem checkSlots_ok_of_le (h : ∀ o ∈ os, o.1.toNat + o.2.size imm ≤ 256) : checkSlots imm os = .ok () :=
  (checkSlots_eq_ok imm os).mpr fun o ho => by simp [fits, h o ho]

/-- An operand past slot 255 does not fit: it has slots, since it starts inside the slot file (30_encoding.md R97). -/
theorem fits_eq_false {b : SlotNo} {n : Nat} (h : 256 < b.toNat + n) : fits b n = false := by
  have hslots : n ≠ 0 := by omega
  simp [fits, hslots, h]

/-- An operand past slot 255 is the first error of its command (60_exceptions.md R322). -/
theorem State.operandError_of_past_end (ho : o ∈ i.operands) (h : 256 < o.1.toNat + o.2.size i.immField) :
    s.operandError i = some .slotRange :=
  if_neg fun hslots => by simpa [fits_eq_false h] using List.all_eq_true.mp hslots o ho

/-- A command with a legal word and an operand past slot 255 raises SLOT_RANGE. -/
theorem exec_fails_slotRange (hwf : i.wellFormed = true) (ho : o ∈ i.operands) (h : 256 < o.1.toNat + o.2.size i.immField) :
    s.Fails (exec i s) .slotRange :=
  firstOperandErrorIsRaised s i .slotRange hwf (State.operandError_of_past_end ho h)

end ranges

/-! ### NOP, MOV and CLR -/

section runs
variable {s : State} {d a : SlotNo} {imm : Imm}

/-- A run that is read, slot by slot (40_control.md R133). -/
theorem State.readRun_eq_map (s : State) (a n : Nat) : s.readRun a n = (List.range n).map fun k => s.slot (a + k) := by
  refine List.ext_getElem (by simp) fun k hk _ => ?_
  have hread := s.readRun_getD a n k (by simpa using hk)
  rw [List.getD_eq_getElem _ _ hk] at hread
  simpa using hread

/-- NOP writes a run of no slots (40_control.md R130). -/
theorem execNop_writes (s : State) : s.Writes (exec .nop s) 0 [] := s.finishSlots_ok 0 [] (Nat.zero_le _)

theorem execMov_writes (hd : d.toNat + imm.toNat ≤ 255) (ha : a.toNat + imm.toNat ≤ 255) :
    s.Writes (exec (.mov d a imm) s) d ((List.range (imm.toNat + 1)).map fun k => s.slot (a.toNat + k)) := by
  have hc : checkSlots imm [(d, .run), (a, .run)] = .ok () :=
    checkSlots_ok_of_le (List.forall_mem_cons.mpr ⟨Nat.succ_le_succ hd, List.forall_mem_singleton.mpr (Nat.succ_le_succ ha)⟩)
  rw [← State.readRun_eq_map]
  exact s.writes_of_ok (checked_ok hc _) (by rw [State.readRun_length]; omega)

theorem execMov_fails (h : 255 < d.toNat + imm.toNat ∨ 255 < a.toNat + imm.toNat) :
    s.Fails (exec (.mov d a imm) s) .slotRange := by
  obtain hd | ha := h
  · exact exec_fails_slotRange (o := (d, .run)) rfl (by simp [Instr.operands]) (Nat.succ_lt_succ hd)
  · exact exec_fails_slotRange (o := (a, .run)) rfl (by simp [Instr.operands]) (Nat.succ_lt_succ ha)

theorem execClr_writes (hd : d.toNat + imm.toNat ≤ 255) :
    s.Writes (exec (.clr d imm) s) d (List.replicate (imm.toNat + 1) 0) := by
  have hc : checkSlots imm [(d, .run)] = .ok () := checkSlots_ok_of_le (List.forall_mem_singleton.mpr (Nat.succ_le_succ hd))
  exact s.writes_of_ok (checked_ok hc _) (by rw [List.length_replicate]; omega)

theorem execClr_fails (hd : 255 < d.toNat + imm.toNat) : s.Fails (exec (.clr d imm) s) .slotRange :=
  exec_fails_slotRange (o := (d, .run)) rfl (by simp [Instr.operands]) (Nat.succ_lt_succ hd)

end runs

/-- Settles O30: the range check of a run of IMM + 1 slots passes exactly up to slot 255, and the run is read before it is written. -/
theorem nopMovClr : Obligations.NopMovClr := fun s _ _ _ =>
  ⟨⟨rfl, rfl, rfl⟩, execNop_writes s, execMov_writes, execMov_fails, execClr_writes, execClr_fails⟩

/-! ### LDC -/

section ldc
variable {s : State} {d : SlotNo} {imm : Imm}

/-- LDC writes the words of its ROM constant when they fit (40_control.md R132). -/
theorem execLdc_writes {ws : List SlotWord} (hrom : romWords imm = some ws) (hfit : d.toNat + ws.length ≤ 256) :
    s.Writes (exec (.ldc d imm) s) d ws := by
  have hsize : d.toNat + constSize imm ≤ 256 := romWords_length imm ws hrom ▸ hfit
  have hc : checkSlots imm [(d, .const)] = .ok () := checkSlots_ok_of_le (List.forall_mem_singleton.mpr hsize)
  exact s.writes_of_ok (by rw [hrom]; exact checked_ok hc ws) hfit

/-- A constant of one slot fits at every slot. -/
theorem execLdc_writes_slot {w : SlotWord} (hrom : romWords imm = some [w]) : s.Writes (exec (.ldc d imm) s) d [w] :=
  execLdc_writes hrom d.isLt

theorem execLdc_fails_slotRange (himm : imm.toNat ≤ 13) (h : 256 < d.toNat + constSize imm) :
    s.Fails (exec (.ldc d imm) s) .slotRange :=
  exec_fails_slotRange (o := (d, .const)) (decide_eq_true himm) (by simp [Instr.operands]) h

/-- The word of LDC with an index above 13 is illegal (30_encoding.md R95). -/
theorem illegalWord_ldc (h : 13 < imm.toNat) : IllegalWord (encodeWord 0x01 d 0 0 imm) := by
  have himm : (encodeWord 0x01 d 0 0 imm).extractLsb' 32 8 = imm := congrArg Fields.imm (unpack_encodeWord 0x01 d 0 0 imm)
  exact .inr (.inr (.inr ⟨op_encodeWord _ _ _ _ _, himm.symm ▸ h⟩))

theorem runCommand_ldc_fails (h : 13 < imm.toNat) : s.Fails (runCommand (encodeWord 0x01 d 0 0 imm) s) .illegalCommand :=
  (illegalWordsRaiseIllegalCommand _ s).1 (illegalWord_ldc h)

/-- LDC of a G2 constant also writes T = Z·Z: 1 for the generator, 0 for the identity (10_state.md R26). -/
theorem execLdc_writes_g2 (hfit : d.toNat + 8 ≤ 256) :
    s.Writes (exec (.ldc d 4) s) d (fq2Words g2Gen.x ++ fq2Words g2Gen.y ++ fq2Words ⟨1, 0⟩ ++ fq2Words ⟨1, 0⟩) ∧
      s.Writes (exec (.ldc d 6) s) d (fq2Words ⟨1, 0⟩ ++ fq2Words ⟨1, 0⟩ ++ fq2Words ⟨0, 0⟩ ++ fq2Words ⟨0, 0⟩) := by
  rw [← g2Words_affine, ← g2Words_g2Ident]
  exact ⟨execLdc_writes rfl hfit, execLdc_writes rfl hfit⟩

end ldc

/-- Settles O31: each index names its ROM constant, whose words LDC writes, and the index above 13 and the constant past slot 255
are the two errors. -/
theorem ldcWritesTheRomConstants : Obligations.LdcWritesTheRomConstants := fun _ _ =>
  ⟨fun _ => ⟨rfl, execLdc_fails_slotRange, runCommand_ldc_fails⟩, execLdc_writes_slot rfl, execLdc_writes_slot rfl,
    fun hfit => execLdc_writes rfl hfit, fun hfit => ⟨execLdc_writes rfl hfit, execLdc_writes rfl hfit⟩, execLdc_writes_g2,
    execLdc_writes_slot rfl, execLdc_writes_slot rfl, execLdc_writes_slot rfl, execLdc_writes_slot rfl,
    fun hfit => ⟨execLdc_writes rfl hfit, execLdc_writes rfl hfit, execLdc_writes rfl hfit⟩⟩

end Sys2Proof.Machine

/-! SUPPORT. Arithmetic modulo `m` in Montgomery words, said once for Fq and Fr: the slot-level computations of 41_field_fq_fr.md
R140 and R142, and the powers of R150. -/

namespace Sys2Proof.Machine

/-! ### Powers (41_field_fq_fr.md R150) -/

section powers
variable {M : Type} [Monoid M]

/-- The loop over the lowest `b` bits of `e`, from a power of the base: every bit doubles the exponent and adds itself to it. -/
theorem expLoop_pow (x : M) (e k b : Nat) : expLoop x e (x ^ k) b = x ^ (k * 2 ^ b + e % 2 ^ b) := by
  induction b generalizing k with
  | zero => simp [expLoop, Nat.mod_one]
  | succ b ih =>
    have hsqr : sqr (x ^ k) = x ^ (k + k) := (pow_add x k k).symm
    rw [expLoop, hsqr, ← pow_succ, Nat.mod_pow_succ, ← Nat.toNat_testBit]
    cases e.testBit b with
    | false =>
      rw [if_neg Bool.false_ne_true, ih, Bool.toNat_false]
      congr 1
      ring
    | true =>
      rw [if_pos rfl, ih, Bool.toNat_true]
      congr 1
      ring

theorem lt_two_pow_bitlen (e : Nat) : e < 2 ^ bitlen e := by
  unfold bitlen
  split
  next h => simp [h]
  next => exact Nat.lt_log2_self

/-- Square-and-multiply over all bits of the exponent is the power. -/
theorem expInt_eq_pow (x : M) (e : Nat) : expInt x e = x ^ e := by
  have h := expLoop_pow x e 0 (bitlen e)
  rwa [pow_zero, Nat.zero_mul, Nat.zero_add, Nat.mod_eq_of_lt (lt_two_pow_bitlen e)] at h

end powers

open Fin.CommRing in
/-- A power of a residue is the residue of the power. -/
theorem val_expInt {m : Nat} [NeZero m] (x : Fin m) (e : Nat) : (expInt x e).val = x.val ^ e % m := by
  have hpow : (x ^ e).val = x.val ^ e % m := by
    induction e with
    | zero => rw [pow_zero, pow_zero, Fin.val_one']
    | succ e ih => rw [pow_succ, pow_succ, Fin.val_mul, ih, Nat.mod_mul_mod]
  rw [← hpow]
  exact congrArg Fin.val (expInt_eq_pow x e)

/-- The sum of two numbers below `m` modulo `m`: one conditional subtraction. -/
theorem add_mod_of_lt {m u v : Nat} (hu : u < m) (hv : v < m) : (u + v) % m = if u + v < m then u + v else u + v - m := by
  split
  next h => exact Nat.mod_eq_of_lt h
  next h => rw [Nat.mod_eq_sub_mod (by omega), Nat.mod_eq_of_lt (by omega)]

/-- A word with the value of a number is the word made of it. -/
theorem eq_ofNat_of_toNat {w : SlotWord} {n : Nat} (h : w.toNat = n) : w = BitVec.ofNat 384 n := by
  rw [← h, BitVec.ofNat_toNat, BitVec.setWidth_eq]

/-- The word 0 is canonical for every modulus. -/
theorem toNat_lt_of_eq_zero {m : Nat} [NeZero m] {w : SlotWord} (h : w = 0#384) : w.toNat < m := by
  rw [h, BitVec.toNat_zero]
  exact Nat.pos_of_neZero m

/-! ### Montgomery views -/

/-- `val` and `word` are the Montgomery view of the integers modulo `m` with radix `R`: a value x is stored as (x·R) mod m, a
canonical word w shows the x with x·R ≡ w, and a stored value is read back (10_state.md R22, R23). -/
structure MontView (m R : Nat) (val : SlotWord → Fin m) (word : Fin m → SlotWord) : Prop where
  toNat_word : ∀ x, (word x).toNat = x.val * R % m
  val_mul_radix : ∀ {w : SlotWord}, w.toNat < m → (val w).val * R % m = w.toNat
  val_word : ∀ x, val (word x) = x

theorem fqView : MontView Config.q (2 ^ 384) fqOfWord fqToWord := ⟨toNat_fqToWord, fqOfWord_mul_radix, fqOfWord_fqToWord⟩

theorem frView : MontView Config.r (2 ^ 256) frOfWord frToWord := ⟨toNat_frToWord, frOfWord_mul_radix, frOfWord_frToWord⟩

namespace MontView

variable {m R : Nat} {val : SlotWord → Fin m} {word : Fin m → SlotWord} {u v w : SlotWord}

theorem toNat_word_lt (h : MontView m R val word) (x : Fin m) : (word x).toNat < m :=
  h.toNat_word x ▸ Nat.mod_lt _ x.pos

theorem word_eq (h : MontView m R val word) (x : Fin m) : word x = BitVec.ofNat 384 (x.val * R % m) :=
  eq_ofNat_of_toNat (h.toNat_word x)

/-- A canonical word that was read is stored as it was. -/
theorem word_val (h : MontView m R val word) (hw : w.toNat < m) : word (val w) = w :=
  BitVec.eq_of_toNat_eq ((h.toNat_word _).trans (h.val_mul_radix hw))

/-- Canonical words are equal exactly when their values are (41_field_fq_fr.md R154). -/
theorem val_inj (h : MontView m R val word) (hu : u.toNat < m) (hv : v.toNat < m) : val u = val v ↔ u = v :=
  ⟨fun e => by rw [← h.word_val hu, e, h.word_val hv], congrArg val⟩

/-! ### Sums and products (41_field_fq_fr.md R140, R142) -/

/-- The word of a sum is the sum of the words modulo `m`. -/
theorem toNat_word_add (h : MontView m R val word) (x y : Fin m) :
    (word (x + y)).toNat = ((word x).toNat + (word y).toNat) % m := by
  rw [h.toNat_word, h.toNat_word, h.toNat_word, Fin.val_add, Nat.mod_mul_mod, Nat.add_mul, Nat.add_mod]

theorem word_add (h : MontView m R val word) (hu : u.toNat < m) (hv : v.toNat < m) : word (val u + val v) = addWord m u v := by
  refine eq_ofNat_of_toNat ?_
  rw [h.toNat_word_add, h.word_val hu, h.word_val hv, add_mod_of_lt hu hv]

/-- The word of a product is the Montgomery product of the words. -/
theorem montProduct_mul (h : MontView m R val word) (hu : u.toNat < m) (hv : v.toNat < m) :
    MontProduct m R u v (word (val u * val v)) := by
  refine ⟨h.toNat_word_lt _, ?_⟩
  calc (word (val u * val v)).toNat * R % m
      = (val u).val * (val v).val * R * R % m := by
        rw [h.toNat_word, Nat.mod_mul_mod, Fin.val_mul, Nat.mul_assoc, Nat.mod_mul_mod, Nat.mul_assoc _ R R]
    _ = (val u).val * R * ((val v).val * R) % m := by rw [Nat.mul_mul_mul_comm, Nat.mul_assoc _ R R]
    _ = u.toNat * v.toNat % m := by rw [Nat.mul_mod, h.val_mul_radix hu, h.val_mul_radix hv]

/-- Reading the value of a word is the Montgomery product by 1 (R142). -/
theorem montProduct_one (h : MontView m R val word) (hm : m ≤ 2 ^ 384) (hu : u.toNat < m) :
    MontProduct m R u 1#384 (BitVec.ofNat 384 (val u).val) := by
  have hfit : (val u).val < 2 ^ 384 := Nat.lt_of_lt_of_le (val u).isLt hm
  rw [MontProduct, toNat_ofNat_of_lt hfit, h.val_mul_radix hu]
  exact ⟨(val u).isLt, by rw [BitVec.toNat_one (by decide), Nat.mul_one, Nat.mod_eq_of_lt hu]⟩

variable [NeZero m]

theorem word_zero (h : MontView m R val word) : word 0 = 0#384 := by
  rw [h.word_eq, Fin.val_zero, Nat.zero_mul, Nat.zero_mod]

/-- Of the canonical words, 0 alone shows the value 0. -/
theorem val_eq_zero_iff (h : MontView m R val word) (hw : w.toNat < m) : val w = 0 ↔ w = 0#384 := by
  rw [← h.val_word 0, h.word_zero]
  exact h.val_inj hw (toNat_lt_of_eq_zero rfl)

/-- The difference is what added to the subtrahend gives the minuend. -/
theorem word_sub (h : MontView m R val word) (hu : u.toNat < m) (hv : v.toNat < m) : word (val u - val v) = subWord m u v := by
  have hsum := h.toNat_word_add (val u - val v) (val v)
  have hz := h.toNat_word_lt (val u - val v)
  rw [sub_add_cancel, h.word_val hu, h.word_val hv, add_mod_of_lt hz hv] at hsum
  refine eq_ofNat_of_toNat ?_
  split at hsum <;> split <;> omega

/-- The negative is what added to the value gives 0. -/
theorem word_neg (h : MontView m R val word) (hu : u.toNat < m) : word (-val u) = negWord m u := by
  have hsum := h.toNat_word_add (-val u) (val u)
  have hz := h.toNat_word_lt (-val u)
  rw [neg_add_cancel, h.word_zero, BitVec.toNat_zero, h.word_val hu, add_mod_of_lt hz hu] at hsum
  refine eq_ofNat_of_toNat ?_
  split at hsum <;> split <;> omega

/-! ### Integers and powers (41_field_fq_fr.md R142, R150) -/

theorem word_ofNat (h : MontView m R val word) (n : Nat) : word (Fin.ofNat m n) = BitVec.ofNat 384 (n * R % m) := by
  rw [h.word_eq, Fin.val_ofNat, Nat.mod_mul_mod]

/-- An integer below the modulus is the value of the word that stores it. -/
theorem val_word_ofNat (h : MontView m R val word) {n : Nat} (hn : n < m) : (val (word (Fin.ofNat m n))).val = n := by
  rw [h.val_word, Fin.val_ofNat, Nat.mod_eq_of_lt hn]

/-- Storing an integer is the Montgomery product by R^2 mod m, the word of R (R142). -/
theorem montProduct_square (h : MontView m R val word) (u : SlotWord) :
    MontProduct m R u (word (Fin.ofNat m R)) (word (Fin.ofNat m u.toNat)) := by
  refine ⟨h.toNat_word_lt _, ?_⟩
  rw [h.toNat_word, h.toNat_word, Fin.val_ofNat, Fin.val_ofNat]
  simp only [Nat.mod_mul_mod, Nat.mul_mod_mod, Nat.mul_assoc]

theorem word_expInt (h : MontView m R val word) (x : Fin m) (e : Nat) :
    word (expInt x e) = BitVec.ofNat 384 (x.val ^ e * R % m) := by
  rw [h.word_eq, val_expInt, Nat.mod_mul_mod]

end MontView

end Sys2Proof.Machine

/-! SUPPORT. The commands of Fq and Fr: each passes its range check, reads canonical slots or raises NONCANONICAL, and writes the
word of one value. -/

namespace Sys2Proof.Machine

/-- An operand of one slot fits the slot file wherever it lies (30_encoding.md R97). -/
theorem checkSlots_of_slots {imm : Imm} {os : List (SlotNo × Kind)} (h : os.all (fun o => o.2.size imm == 1) = true) :
    checkSlots imm os = .ok () :=
  checkSlots_ok_of_le fun o ho => (beq_iff_eq.mp (List.all_eq_true.mp h o ho)).symm ▸ o.1.isLt

/-! ### Commands that write one word, by what they read and check -/

section bodies
variable {α β : Type} {s : State} {d : SlotNo} {imm : Imm} {os : List (SlotNo × Kind)} {x : α} {y : β} {c : ErrCode} {w : SlotWord}
  {ra : Result α} {rb : Result β} {p q : Prop} [Decidable p] [Decidable q]

theorem State.writes_of_read (hc : checkSlots imm os = .ok ()) (ha : ra = .ok x) {f : α → SlotWord} (hw : f x = w) :
    s.Writes (s.finishSlots d (do checkSlots imm os; let x ← ra; return [f x])) d [w] :=
  hw ▸ s.writes_of_ok (checked_read_ok hc ha fun x => [f x]) d.isLt

theorem State.writes_of_reads (hc : checkSlots imm os = .ok ()) (ha : ra = .ok x) (hb : rb = .ok y) {f : α → β → SlotWord}
    (hw : f x y = w) : s.Writes (s.finishSlots d (do checkSlots imm os; let x ← ra; let y ← rb; return [f x y])) d [w] :=
  hw ▸ s.writes_of_ok (checked_read_read_ok hc ha hb fun x y => [f x y]) d.isLt

/-- A read that fails ends the command with its error. -/
theorem State.fails_of_read (hc : checkSlots imm os = .ok ()) (ha : ra = .error c) {f : α → Result (List SlotWord)} :
    s.Fails (s.finishSlots d (do checkSlots imm os; let x ← ra; f x)) c := by
  rw [hc, ha]
  exact s.finishSlots_error d c

/-- Of two reads that can fail with the same error, one that fails ends the command. -/
theorem checked_reads_error {γ : Type} (hc : checkSlots imm os = .ok ()) (ha : ra = if p then .ok x else .error c)
    (hb : rb = if q then .ok y else .error c) (h : ¬ p ∨ ¬ q) (f : α → β → Result γ) :
    (do checkSlots imm os; let x ← ra; let y ← rb; f x y : Result γ) = .error c := by
  rw [hc, ha]
  by_cases hp : p
  · rw [if_pos hp, hb, if_neg (h.resolve_left (not_not.mpr hp))]
    rfl
  · rw [if_neg hp]
    rfl

theorem State.fails_of_reads (hc : checkSlots imm os = .ok ()) (ha : ra = if p then .ok x else .error c)
    (hb : rb = if q then .ok y else .error c) (h : ¬ p ∨ ¬ q) {f : α → β → Result (List SlotWord)} :
    s.Fails (s.finishSlots d (do checkSlots imm os; let x ← ra; let y ← rb; f x y)) c :=
  checked_reads_error hc ha hb h f ▸ s.finishSlots_error d c

theorem State.finishEq_fails_of_reads (hc : checkSlots imm os = .ok ()) (ha : ra = if p then .ok x else .error c)
    (hb : rb = if q then .ok y else .error c) (h : ¬ p ∨ ¬ q) {f : α → β → Result Bool} :
    s.Fails (s.finishEq (do checkSlots imm os; let x ← ra; let y ← rb; f x y)) c :=
  checked_reads_error hc ha hb h f ▸ s.finishEq_error c

/-- A command with a value check after its read, which passes (41_field_fq_fr.md R151, R164). -/
theorem State.writes_of_read_check {g : α → Prop} [DecidablePred g] (hc : checkSlots imm os = .ok ()) (ha : ra = .ok x)
    (hg : ¬ g x) {f : α → SlotWord} (hw : f x = w) :
    s.Writes (s.finishSlots d (do
      checkSlots imm os
      let x ← ra
      if g x then throw c
      return [f x])) d [w] := by
  rw [hc, ha, result_ok_bind, result_ok_bind, if_neg hg, ← hw]
  exact s.finishSlots_ok d [f x] d.isLt

theorem State.fails_of_read_check {g : α → Prop} [DecidablePred g] (hc : checkSlots imm os = .ok ()) (ha : ra = .ok x)
    (hg : g x) {f : α → SlotWord} :
    s.Fails (s.finishSlots d (do
      checkSlots imm os
      let x ← ra
      if g x then throw c
      return [f x])) c := by
  rw [hc, ha, result_ok_bind, result_ok_bind, if_pos hg]
  exact s.finishSlots_error d c

/-- A command with a check and no read (41_field_fq_fr.md R152, R165). -/
theorem State.writes_of_check (hc : checkSlots imm os = .ok ()) (hp : ¬ p) :
    s.Writes (s.finishSlots d (do
      checkSlots imm os
      if p then throw c
      return [w])) d [w] := by
  rw [hc, result_ok_bind, if_neg hp]
  exact s.finishSlots_ok d [w] d.isLt

theorem State.fails_of_check (hc : checkSlots imm os = .ok ()) (hp : p) :
    s.Fails (s.finishSlots d (do
      checkSlots imm os
      if p then throw c
      return [w])) c := by
  rw [hc, result_ok_bind, if_pos hp]
  exact s.finishSlots_error d c

end bodies

/-! ### Reads of one slot -/

section reads
variable {s : State} {n : Nat}

theorem State.readFq_ok (h : s.canonFq n) : s.readFq n = .ok (s.fqAt n) := (s.readFq_eq n).trans (if_pos h)
theorem State.readFr_ok (h : s.canonFr n) : s.readFr n = .ok (s.frAt n) := (s.readFr_eq n).trans (if_pos h)
theorem State.readFq_error (h : ¬ s.canonFq n) : s.readFq n = .error .noncanonical := (s.readFq_eq n).trans (if_neg h)
theorem State.readFr_error (h : ¬ s.canonFr n) : s.readFr n = .error .noncanonical := (s.readFr_eq n).trans (if_neg h)

end reads

/-! ### ADD, SUB, NEG, MUL, SQR (41_field_fq_fr.md R145 to R149, R158 to R162) -/

/-- Settles O33: the word of a sum, a difference and a negative in a Montgomery view is the slot-level computation on the words. -/
theorem fieldAddSubNegOnSlotWords : Obligations.FieldAddSubNegOnSlotWords := by
  intro s d a b
  refine ⟨⟨rfl, rfl, rfl, rfl, rfl, rfl⟩, fun ha => ?fq, fun ha => ?fr, fun ha => ?fqNegError, fun ha => ?frNegError,
    fun h => ?fqErrors, fun h => ?frErrors⟩
  case fq =>
    have hneg := fqView.word_neg ha
    refine ⟨hneg, s.writes_of_read (checkSlots_of_slots rfl) (s.readFq_ok ha) hneg, fun hb => ?_⟩
    have hadd := fqView.word_add ha hb
    have hsub := fqView.word_sub ha hb
    exact ⟨hadd, hsub, s.writes_of_reads (checkSlots_of_slots rfl) (s.readFq_ok ha) (s.readFq_ok hb) hadd,
      s.writes_of_reads (checkSlots_of_slots rfl) (s.readFq_ok ha) (s.readFq_ok hb) hsub⟩
  case fr =>
    have hneg := frView.word_neg ha
    refine ⟨hneg, s.writes_of_read (checkSlots_of_slots rfl) (s.readFr_ok ha) hneg, fun hb => ?_⟩
    have hadd := frView.word_add ha hb
    have hsub := frView.word_sub ha hb
    exact ⟨hadd, hsub, s.writes_of_reads (checkSlots_of_slots rfl) (s.readFr_ok ha) (s.readFr_ok hb) hadd,
      s.writes_of_reads (checkSlots_of_slots rfl) (s.readFr_ok ha) (s.readFr_ok hb) hsub⟩
  case fqNegError => exact s.fails_of_read (checkSlots_of_slots rfl) (s.readFq_error ha)
  case frNegError => exact s.fails_of_read (checkSlots_of_slots rfl) (s.readFr_error ha)
  case fqErrors =>
    exact ⟨s.fails_of_reads (checkSlots_of_slots rfl) (s.readFq_eq _) (s.readFq_eq _) h,
      s.fails_of_reads (checkSlots_of_slots rfl) (s.readFq_eq _) (s.readFq_eq _) h⟩
  case frErrors =>
    exact ⟨s.fails_of_reads (checkSlots_of_slots rfl) (s.readFr_eq _) (s.readFr_eq _) h,
      s.fails_of_reads (checkSlots_of_slots rfl) (s.readFr_eq _) (s.readFr_eq _) h⟩

/-- Settles O34: the word of a product in a Montgomery view is the Montgomery product of the words. -/
theorem fieldMulSqrAreMontgomeryProducts : Obligations.FieldMulSqrAreMontgomeryProducts := by
  intro s d a b
  refine ⟨⟨rfl, rfl, rfl, rfl⟩, fun ha => ⟨?fqSqr, fun hb => ?fqMul⟩, fun ha => ⟨?frSqr, fun hb => ?frMul⟩,
    fun ha => ?fqSqrError, fun ha => ?frSqrError, fun h => ?fqMulError, fun h => ?frMulError⟩
  case fqSqr =>
    exact ⟨_, rfl, fqView.montProduct_mul ha ha, s.writes_of_read (checkSlots_of_slots rfl) (s.readFq_ok ha) rfl⟩
  case fqMul =>
    exact ⟨_, rfl, fqView.montProduct_mul ha hb,
      s.writes_of_reads (checkSlots_of_slots rfl) (s.readFq_ok ha) (s.readFq_ok hb) rfl⟩
  case frSqr =>
    exact ⟨_, rfl, frView.montProduct_mul ha ha, s.writes_of_read (checkSlots_of_slots rfl) (s.readFr_ok ha) rfl⟩
  case frMul =>
    exact ⟨_, rfl, frView.montProduct_mul ha hb,
      s.writes_of_reads (checkSlots_of_slots rfl) (s.readFr_ok ha) (s.readFr_ok hb) rfl⟩
  case fqSqrError => exact s.fails_of_read (checkSlots_of_slots rfl) (s.readFq_error ha)
  case frSqrError => exact s.fails_of_read (checkSlots_of_slots rfl) (s.readFr_error ha)
  case fqMulError => exact s.fails_of_reads (checkSlots_of_slots rfl) (s.readFq_eq _) (s.readFq_eq _) h
  case frMulError => exact s.fails_of_reads (checkSlots_of_slots rfl) (s.readFr_eq _) (s.readFr_eq _) h

/-! ### EXP (41_field_fq_fr.md R150, R163) -/

/-- The exponent that a command reads is the sum of its limbs (10_state.md R29). -/
theorem State.readExp_eq (s : State) (b n : Nat) : s.readExp b n = s.exponent b n := by
  induction n with
  | zero => rfl
  | succ n ih => rw [State.readExp, ih, State.exponent, State.exponent, Finset.sum_range_succ, State.expLimb]

/-- The range check of an exponentiation passes when the exponent has no limb or ends inside the slot file (30_encoding.md R97). -/
theorem checkSlots_exp {imm : Imm} {k : Kind} (hk : k.size imm = 1) {d a b : SlotNo}
    (h : imm = 0 ∨ b.toNat + (imm.toNat + 5) / 6 ≤ 256) : checkSlots imm [(d, k), (a, k), (b, .exp)] = .ok () := by
  have hexp : b.toNat + (imm.toNat + 5) / 6 ≤ 256 := by
    obtain rfl | h := h
    · exact b.isLt.le
    · exact h
  refine checkSlots_ok_of_le ?_
  simp only [List.forall_mem_cons, hk]
  exact ⟨d.isLt, a.isLt, hexp, List.forall_mem_nil _⟩

/-- Settles O35: square-and-multiply gives the exact power, and the exponent's slots are the only range that can fail. -/
theorem fieldExpIsTheExactPower : Obligations.FieldExpIsTheExactPower := by
  intro s d a b imm
  refine ⟨⟨rfl, rfl⟩, fun hfit => ?_, fun _ hpast =>
    ⟨exec_fails_slotRange (o := (b, .exp)) rfl (by simp [Instr.operands]) hpast,
      exec_fails_slotRange (o := (b, .exp)) rfl (by simp [Instr.operands]) hpast⟩⟩
  rw [← State.readExp_eq]
  exact ⟨fun ha => s.writes_of_read (checkSlots_exp rfl hfit) (s.readFq_ok ha) (fqView.word_expInt _ _),
    fun ha => s.writes_of_read (checkSlots_exp rfl hfit) (s.readFr_ok ha) (frView.word_expInt _ _),
    fun ha => s.fails_of_read (checkSlots_exp rfl hfit) (s.readFq_error ha),
    fun ha => s.fails_of_read (checkSlots_exp rfl hfit) (s.readFr_error ha)⟩

/-! ### INV (41_field_fq_fr.md R151, R164) -/

/-- Settles O36: the model inverts by the Fermat power, and of the canonical words 0 alone shows the value 0. -/
theorem fieldInverseIsTheFermatPower : Obligations.FieldInverseIsTheFermatPower := by
  intro s d a
  refine ⟨⟨rfl, rfl⟩, fun ha hne => ?fq, fun ha hne => ?fr, fun hzero => ⟨?fqZero, ?frZero⟩, fun ha => ?fqError,
    fun ha => ?frError⟩
  case fq =>
    have hvalue : s.fqAt a.toNat ≠ 0 := mt (fqView.val_eq_zero_iff ha).mp hne
    exact s.writes_of_read_check (checkSlots_of_slots rfl) (s.readFq_ok ha) hvalue (fqView.word_expInt _ _)
  case fr =>
    have hvalue : s.frAt a.toNat ≠ 0 := mt (frView.val_eq_zero_iff ha).mp hne
    exact s.writes_of_read_check (checkSlots_of_slots rfl) (s.readFr_ok ha) hvalue (frView.word_expInt _ _)
  case fqZero =>
    have ha : s.canonFq a.toNat := toNat_lt_of_eq_zero hzero
    exact s.fails_of_read_check (checkSlots_of_slots rfl) (s.readFq_ok ha) ((fqView.val_eq_zero_iff ha).mpr hzero)
  case frZero =>
    have ha : s.canonFr a.toNat := toNat_lt_of_eq_zero hzero
    exact s.fails_of_read_check (checkSlots_of_slots rfl) (s.readFr_ok ha) ((frView.val_eq_zero_iff ha).mpr hzero)
  case fqError => exact s.fails_of_read (checkSlots_of_slots rfl) (s.readFq_error ha)
  case frError => exact s.fails_of_read (checkSlots_of_slots rfl) (s.readFr_error ha)

/-! ### FROMINT and TOINT (41_field_fq_fr.md R152, R153, R165, R166) -/

section conversions
variable {s t t' : State} {d e a : SlotNo} {o : Outcome} {w : SlotWord}

theorem execFqFromint_writes (h : (s.slot a.toNat).toNat < Config.q) :
    s.Writes (exec (.fqFromint d a) s) d [fqToWord (Fin.ofNat Config.q (s.slot a.toNat).toNat)] :=
  s.writes_of_check (checkSlots_of_slots rfl) (Nat.not_le.mpr h)

theorem execFrFromint_writes (h : (s.slot a.toNat).toNat < Config.r) :
    s.Writes (exec (.frFromint d a) s) d [frToWord (Fin.ofNat Config.r (s.slot a.toNat).toNat)] :=
  s.writes_of_check (checkSlots_of_slots rfl) (Nat.not_le.mpr h)

theorem execFqToint_writes (h : s.canonFq a.toNat) :
    s.Writes (exec (.fqToint d a) s) d [BitVec.ofNat 384 (s.fqAt a.toNat).val] :=
  s.writes_of_read (checkSlots_of_slots rfl) (s.readFq_ok h) rfl

theorem execFrToint_writes (h : s.canonFr a.toNat) :
    s.Writes (exec (.frToint d a) s) d [BitVec.ofNat 384 (s.frAt a.toNat).val] :=
  s.writes_of_read (checkSlots_of_slots rfl) (s.readFr_ok h) rfl

/-- The slot that a command wrote, in the state it ended in. -/
theorem State.Writes.slot_eq (h : s.Writes o d [w]) (ho : o = .next t) : t.slot d.toNat = w := by
  obtain ⟨_, ht, _, hslots, _⟩ := h
  cases ho.symm.trans ht
  exact hslots.1 0 Nat.zero_lt_one

theorem fqToint_fqFromint (h : (s.slot a.toNat).toNat < Config.q) (ht : exec (.fqFromint d a) s = .next t)
    (ht' : exec (.fqToint e d) t = .next t') : t'.slot e.toNat = s.slot a.toNat := by
  have hslot := (execFqFromint_writes h).slot_eq ht
  have hcanon : t.canonFq d.toNat := (congrArg BitVec.toNat hslot).trans_lt (fqView.toNat_word_lt _)
  rw [(execFqToint_writes hcanon).slot_eq ht', State.fqAt, hslot, fqView.val_word_ofNat h]
  exact (eq_ofNat_of_toNat rfl).symm

theorem frToint_frFromint (h : (s.slot a.toNat).toNat < Config.r) (ht : exec (.frFromint d a) s = .next t)
    (ht' : exec (.frToint e d) t = .next t') : t'.slot e.toNat = s.slot a.toNat := by
  have hslot := (execFrFromint_writes h).slot_eq ht
  have hcanon : t.canonFr d.toNat := (congrArg BitVec.toNat hslot).trans_lt (frView.toNat_word_lt _)
  rw [(execFrToint_writes hcanon).slot_eq ht', State.frAt, hslot, frView.val_word_ofNat h]
  exact (eq_ofNat_of_toNat rfl).symm

end conversions

/-- Settles O37: storing an integer and reading a value are Montgomery products by R^2 mod m and by 1, and undo one another. -/
theorem integerConversions : Obligations.IntegerConversions := by
  intro s d a
  rw [montSquareQ_eq, montSquareR_eq, ← fqView.word_ofNat, ← frView.word_ofNat]
  exact ⟨⟨rfl, rfl, rfl, rfl⟩,
    fun ha => s.fails_of_read (checkSlots_of_slots rfl) (s.readFq_error ha),
    fun ha => s.fails_of_read (checkSlots_of_slots rfl) (s.readFr_error ha),
    fun ha => ⟨fqView.montProduct_square _, fqView.montProduct_one (by decide +kernel) ha⟩,
    fun ha => ⟨frView.montProduct_square _, frView.montProduct_one (by decide +kernel) ha⟩,
    execFqFromint_writes, fun h => s.fails_of_check (checkSlots_of_slots rfl) h, execFqToint_writes,
    execFrFromint_writes, fun h => s.fails_of_check (checkSlots_of_slots rfl) h, execFrToint_writes,
    fun _ _ _ => fqToint_fqFromint, fun _ _ _ => frToint_frFromint⟩

/-! ### EQ (41_field_fq_fr.md R154, R167; 42_tower.md R199, R209, R219) -/

/-- The `n` slots from `a` show the same Fq values as those from `b`. -/
def State.SameFq (s : State) (a b n : Nat) : Prop := ∀ k < n, s.fqAt (a + k) = s.fqAt (b + k)

section runs
variable {s : State} {a b : Nat}

theorem State.sameFq_one : s.SameFq a b 1 ↔ s.fqAt a = s.fqAt b := by
  simp [State.SameFq]

/-- Two runs show the same values when their two parts do. -/
theorem State.sameFq_add (j k : Nat) : s.SameFq a b (j + k) ↔ s.SameFq a b j ∧ s.SameFq (a + j) (b + j) k := by
  constructor
  · intro h
    refine ⟨fun i hi => h i (by omega), fun i hi => ?_⟩
    rw [Nat.add_assoc, Nat.add_assoc]
    exact h (j + i) (by omega)
  · rintro ⟨hlow, hhigh⟩ i hi
    by_cases hij : i < j
    · exact hlow i hij
    · obtain ⟨i, rfl⟩ := Nat.exists_eq_add_of_le (Nat.le_of_not_lt hij)
      rw [← Nat.add_assoc, ← Nat.add_assoc]
      exact hhigh i (by omega)

/-- Tower elements are equal exactly when their slots show the same Fq values (10_state.md R24). -/
theorem State.fq2At_eq_iff : s.fq2At a = s.fq2At b ↔ s.SameFq a b 2 := by
  rw [State.sameFq_add 1 1, State.sameFq_one, State.sameFq_one, State.fq2At, State.fq2At, Fq2.mk.injEq]

theorem State.fq6At_eq_iff : s.fq6At a = s.fq6At b ↔ s.SameFq a b 6 := by
  rw [State.sameFq_add 2 4, State.sameFq_add 2 2, ← State.fq2At_eq_iff, ← State.fq2At_eq_iff, ← State.fq2At_eq_iff,
    State.fq6At, State.fq6At, Fq6.mk.injEq]

theorem State.fq12At_eq_iff : s.fq12At a = s.fq12At b ↔ s.SameFq a b 12 := by
  rw [State.sameFq_add 6 6, ← State.fq6At_eq_iff, ← State.fq6At_eq_iff, State.fq12At, State.fq12At, Fq12.mk.injEq]

/-- Two canonical runs show the same values exactly when their slots are equal. -/
theorem State.all_slots_eq_iff {n : Nat} (ha : s.allFq a n = true) (hb : s.allFq b n = true) :
    ((List.range n).all fun k => s.slot (a + k) == s.slot (b + k)) = true ↔ s.SameFq a b n := by
  rw [State.allFq_iff] at ha hb
  simp only [List.all_eq_true, List.mem_range, beq_iff_eq]
  exact forall₂_congr fun k hk => (fqView.val_inj (ha k hk) (hb k hk)).symm

end runs

section equality
variable {α : Type} [DecidableEq α] {s : State} {imm : Imm} {os : List (SlotNo × Kind)} {x y : α} {ra rb : Result α} {v : Bool}

/-- An equality command whose reads pass sets EQ to the comparison of the values it read (10_state.md R39). -/
theorem State.setsEq_of_reads (hc : checkSlots imm os = .ok ()) (ha : ra = .ok x) (hb : rb = .ok y) (hv : v = true ↔ x = y) :
    s.SetsEq (s.finishEq (do checkSlots imm os; let x ← ra; let y ← rb; return decide (x = y))) v := by
  rw [hc, ha, hb, Bool.eq_iff_iff.mpr (hv.trans decide_eq_true_iff.symm)]
  exact s.finishEq_ok _

/-- A ready command that compares two runs of Fq slots passes its range check, and both runs are canonical. -/
theorem State.Ready.canonical_runs {i : Instr} {op : BitVec 8} {d a b : SlotNo} {r : Form} {k : Kind} (h : s.Ready i)
    (he : encode i = encodeWord op d a b imm) (hr : formOf op.toNat = some r) (hd : r.usesD = false)
    (hops : i.operands = [(a, k), (b, k)]) (hk : k ∈ [Kind.fq, .fq2, .fq6, .fq12, .g1, .af1, .af2, .sp6, .sp12, .la]) :
    checkSlots i.immField i.operands = .ok () ∧
      s.allFq a.toNat (k.size i.immField) = true ∧ s.allFq b.toNat (k.size i.immField) = true := by
  rw [State.Ready, State.operandError, Instr.sources_of_not_usesD he hr hd] at h
  split at h
  next hslots =>
    rw [State.readError_eq_none, hops] at h
    exact ⟨(checkSlots_eq_ok _ _).mpr (List.all_eq_true.mp hslots), State.allFq_of_readable (h (a, k) (by simp)) hk,
      State.allFq_of_readable (h (b, k) (by simp)) hk⟩
  next => cases h

/-- An equality command that reads two canonical runs sets EQ to the comparison of their slots. -/
theorem State.setsEq_of_runs {a b n : Nat} (hc : checkSlots imm os = .ok ()) (ha : s.allFq a n = true) (hb : s.allFq b n = true)
    (hra : ra = readAs (s.allFq a n) x .noncanonical) (hrb : rb = readAs (s.allFq b n) y .noncanonical)
    (hxy : x = y ↔ s.SameFq a b n) :
    s.SetsEq (s.finishEq (do checkSlots imm os; let x ← ra; let y ← rb; return decide (x = y)))
      ((List.range n).all fun k => s.slot (a + k) == s.slot (b + k)) := by
  rw [ha, readAs_true] at hra
  rw [hb, readAs_true] at hrb
  exact State.setsEq_of_reads hc hra hrb ((State.all_slots_eq_iff ha hb).trans hxy.symm)

end equality

/-- Settles O38: on canonical words the views are injective, so equal values are equal slots. -/
theorem fieldEqualityIsSlotEquality : Obligations.FieldEqualityIsSlotEquality := by
  intro s a b
  refine ⟨⟨rfl, rfl, rfl, rfl, rfl⟩, fun ha hb => ?fq, fun ha hb => ?fr, fun h => ?fqError, fun h => ?frError, fun h => ?fq2,
    fun h => ?fq6, fun h => ?fq12, fun c => ?errors⟩
  case fq =>
    have hinj := fqView.val_inj ha hb
    exact ⟨hinj.symm,
      State.setsEq_of_reads (checkSlots_of_slots rfl) (s.readFq_ok ha) (s.readFq_ok hb) (beq_iff_eq.trans hinj.symm)⟩
  case fr =>
    have hinj := frView.val_inj ha hb
    exact ⟨hinj.symm,
      State.setsEq_of_reads (checkSlots_of_slots rfl) (s.readFr_ok ha) (s.readFr_ok hb) (beq_iff_eq.trans hinj.symm)⟩
  case fqError => exact s.finishEq_fails_of_reads (checkSlots_of_slots rfl) (s.readFq_eq _) (s.readFq_eq _) h
  case frError => exact s.finishEq_fails_of_reads (checkSlots_of_slots rfl) (s.readFr_eq _) (s.readFr_eq _) h
  case fq2 =>
    obtain ⟨hc, ha, hb⟩ := h.canonical_runs rfl rfl rfl rfl (by simp)
    exact State.setsEq_of_runs hc ha hb (s.readFq2_eq _) (s.readFq2_eq _) State.fq2At_eq_iff
  case fq6 =>
    obtain ⟨hc, ha, hb⟩ := h.canonical_runs rfl rfl rfl rfl (by simp)
    exact State.setsEq_of_runs hc ha hb (s.readFq6_eq _) (s.readFq6_eq _) State.fq6At_eq_iff
  case fq12 =>
    obtain ⟨hc, ha, hb⟩ := h.canonical_runs rfl rfl rfl rfl (by simp)
    exact State.setsEq_of_runs hc ha hb (s.readFq12_eq _) (s.readFq12_eq _) State.fq12At_eq_iff
  case errors =>
    exact ⟨firstOperandErrorIsRaised s _ c rfl, firstOperandErrorIsRaised s _ c rfl, firstOperandErrorIsRaised s _ c rfl⟩

end Sys2Proof.Machine

/-! SUPPORT. Sampling from the entropy FIFO, said once for FQ.RAND and FR.RAND (41_field_fq_fr.md R155, R168): the loop over groups
of words takes the first accepted draw, or ends with less than a group. -/

namespace Sys2Proof.Machine

/-- Draw number `k` of groups of `g` words, `bits` bits of each: `fqDraw` for 6 and 381, `frDraw` for 4 and 255. -/
def drawAt (g bits : Nat) (ws : List Word) (k : Nat) : Nat := wordsNat ((ws.drop (g * k)).take g) % 2 ^ bits

/-- A draw is accepted when it is neither 0 nor out of range. -/
def Accepted (m v : Nat) : Prop := v ≠ 0 ∧ v < m

theorem rejected_of_zero_or_ge {m v : Nat} (h : v = 0 ∨ m ≤ v) : ¬ Accepted m v :=
  fun hacc => h.elim hacc.1 (Nat.not_le.mpr hacc.2)

/-- `loop` draws groups of `g` words, `bits` bits of each, until a draw below `m` is accepted or less than a group is left. -/
structure DrawLoop (g bits m : Nat) (loop : List Word → Result Nat × List Word) : Prop where
  pos : 0 < g
  accept : ∀ ws, g ≤ ws.length → Accepted m (drawAt g bits ws 0) → loop ws = (.ok (drawAt g bits ws 0), ws.drop g)
  reject : ∀ ws, g ≤ ws.length → ¬ Accepted m (drawAt g bits ws 0) → loop ws = loop (ws.drop g)
  exhausted : ∀ ws, ws.length < g → loop ws = (.error .entropyExhausted, ws)

/-- FQ.RAND draws six words a time, 381 bits of them (R155). -/
theorem drawLoop_fq : DrawLoop 6 381 Config.q drawFq := by
  refine ⟨by decide, fun ws hlen h => ?_, fun ws hlen h => ?_, fun ws hlen => ?_⟩
  · match ws, hlen with
    | w0 :: w1 :: w2 :: w3 :: w4 :: w5 :: rest, _ => exact if_pos h
  · match ws, hlen with
    | w0 :: w1 :: w2 :: w3 :: w4 :: w5 :: rest, _ => exact if_neg h
  · unfold drawFq
    split
    next =>
      simp only [List.length_cons] at hlen
      omega
    next => rfl

/-- FR.RAND draws four words a time, 255 bits of them (R168). -/
theorem drawLoop_fr : DrawLoop 4 255 Config.r drawFr := by
  refine ⟨by decide, fun ws hlen h => ?_, fun ws hlen h => ?_, fun ws hlen => ?_⟩
  · match ws, hlen with
    | w0 :: w1 :: w2 :: w3 :: rest, _ => exact if_pos h
  · match ws, hlen with
    | w0 :: w1 :: w2 :: w3 :: rest, _ => exact if_neg h
  · unfold drawFr
    split
    next =>
      simp only [List.length_cons] at hlen
      omega
    next => rfl

section loop
variable {g bits m : Nat} {loop : List Word → Result Nat × List Word}

/-- The draws after the first group are those of the words left. -/
theorem drawAt_drop (g bits : Nat) (ws : List Word) (k : Nat) : drawAt g bits (ws.drop g) k = drawAt g bits ws (k + 1) := by
  rw [drawAt, drawAt, List.drop_drop, Nat.mul_succ, Nat.add_comm]

/-- The loop answers the first accepted draw and has popped its words and those of the draws before it. -/
theorem DrawLoop.first_accepted (h : DrawLoop g bits m loop) (k : Nat) (ws : List Word) (hlen : g * (k + 1) ≤ ws.length)
    (hacc : Accepted m (drawAt g bits ws k)) (hrej : ∀ j < k, ¬ Accepted m (drawAt g bits ws j)) :
    loop ws = (.ok (drawAt g bits ws k), ws.drop (g * (k + 1))) := by
  induction k generalizing ws with
  | zero => rw [h.accept ws (by omega) hacc, Nat.zero_add, Nat.mul_one]
  | succ k ih =>
    have hgroup : g * (k + 1 + 1) = g + g * (k + 1) := by ring
    rw [h.reject ws (by omega) (hrej 0 (Nat.succ_pos k)), ih (ws.drop g), drawAt_drop, List.drop_drop, hgroup]
    · rw [List.length_drop]; omega
    · rwa [drawAt_drop]
    · exact fun j hj => drawAt_drop g bits ws j ▸ hrej (j + 1) (Nat.succ_lt_succ hj)

/-- Where every whole draw is rejected, the loop pops their words and leaves the incomplete group. -/
theorem DrawLoop.all_rejected (h : DrawLoop g bits m loop) (n : Nat) (ws : List Word) (hn : ws.length / g = n)
    (hrej : ∀ k < n, ¬ Accepted m (drawAt g bits ws k)) : loop ws = (.error .entropyExhausted, ws.drop (g * n)) := by
  induction n generalizing ws with
  | zero => rw [h.exhausted ws ((Nat.div_eq_zero_iff_lt h.pos).mp hn), Nat.mul_zero, List.drop_zero]
  | succ n ih =>
    have hlen : g ≤ ws.length := by
      by_contra hlt
      rw [Nat.div_eq_of_lt (by omega)] at hn
      omega
    rw [h.reject ws hlen (hrej 0 (Nat.succ_pos n)), ih (ws.drop g), List.drop_drop, Nat.mul_succ, Nat.add_comm]
    · have hdiv := Nat.div_eq_sub_div h.pos hlen
      rw [List.length_drop]
      omega
    · exact fun k hk => drawAt_drop g bits ws k ▸ hrej (k + 1) (Nat.succ_lt_succ hk)

end loop

/-! ### How a sampling command ends -/

section ends
variable {s t : State} {d : SlotNo} {res : Result Nat} {rest : List Word}

/-- What the FIFO held does not show in how a command completed. -/
theorem State.Completed.of_entropy (h : State.Completed { s with entropy := rest } t) : s.Completed t :=
  ⟨h.inflight, h.done, h.doneIe, h.errIe, h.err, h.errcode, h.errinfo, h.wait, h.pending, h.rdata⟩

/-- A sampling command that has a value stores its word and keeps of the FIFO what its draws left. -/
theorem State.finishDraw_ok (s : State) (d : SlotNo) (w : SlotWord) (rest : List Word) :
    ∃ t, s.finishDraw d (.ok [w]) rest = .next t ∧ s.Completed t ∧ t.eq = s.eq ∧ t.entropy = rest ∧ s.SlotsFrom t d [w] := by
  obtain ⟨t, ht, hdone, hslots, heq, hentropy⟩ := { s with entropy := rest }.finishSlots_ok d [w] d.isLt
  exact ⟨t, ht, hdone.of_entropy, heq, hentropy, hslots⟩

theorem State.finishDraw_error (s : State) (d : SlotNo) (c : ErrCode) (rest : List Word) :
    ∃ t, s.finishDraw d (.error c) rest = .next t ∧ s.Failed c t ∧ t.entropy = rest :=
  ⟨_, rfl, ⟨rfl, rfl, rfl, rfl, rfl, rfl, rfl, rfl, rfl, rfl, rfl, rfl⟩, rfl⟩

/-- FQ.RAND writes one slot, so that its range check passes and its draws alone decide how it ends. -/
theorem exec_fqRand (h : drawFq s.entropy = (res, rest)) :
    exec (.fqRand d) s = s.finishDraw d (res.map fun v => fqWords (Fin.ofNat Config.q v)) rest := by
  change execFqRand d s = _
  rw [execFqRand, checkSlots_of_slots rfl, h]

theorem exec_frRand (h : drawFr s.entropy = (res, rest)) :
    exec (.frRand d) s = s.finishDraw d (res.map fun v => frWords (Fin.ofNat Config.r v)) rest := by
  change execFrRand d s = _
  rw [execFrRand, checkSlots_of_slots rfl, h]

end ends

/-- Settles O39: the loop answers the first accepted draw, or pops all whole draws, and either ends the command. -/
theorem randStoresTheFirstAcceptedDraw : Obligations.RandStoresTheFirstAcceptedDraw := by
  intro s d
  refine ⟨⟨rfl, rfl⟩, fun k hlen hne hlt hrej => ?fq, fun k hlen hne hlt hrej => ?fr, fun hrej => ?fqExhausted,
    fun hrej => ?frExhausted⟩
  case fq =>
    have hdraw := drawLoop_fq.first_accepted k s.entropy hlen ⟨hne, hlt⟩ fun j hj => rejected_of_zero_or_ge (hrej j hj)
    rw [exec_fqRand hdraw, ← fqView.word_ofNat]
    exact s.finishDraw_ok d _ _
  case fr =>
    have hdraw := drawLoop_fr.first_accepted k s.entropy hlen ⟨hne, hlt⟩ fun j hj => rejected_of_zero_or_ge (hrej j hj)
    rw [exec_frRand hdraw, ← frView.word_ofNat]
    exact s.finishDraw_ok d _ _
  case fqExhausted =>
    rw [exec_fqRand (drawLoop_fq.all_rejected _ s.entropy rfl fun k hk => rejected_of_zero_or_ge (hrej k hk))]
    exact s.finishDraw_error d _ _
  case frExhausted =>
    rw [exec_frRand (drawLoop_fr.all_rejected _ s.entropy rfl fun k hk => rejected_of_zero_or_ge (hrej k hk))]
    exact s.finishDraw_error d _ _

end Sys2Proof.Machine

/-! SUPPORT. Commands on tower values, by their shape: one or two readable operands in runs of canonical Fq slots, and a run of words
made of the values they show (42_tower.md R180 to R220). -/

namespace Sys2Proof.Machine

/-- An operand of kind `k` occupies `n` Fq slots, which `read` reads: when they are canonical it answers the value they show. -/
structure FqOperand {α : Type} (k : Kind) (n : Nat) (read : State → Nat → Result α) (shown : State → Nat → α) : Prop where
  kind : k ∈ [Kind.fq, .fq2, .fq6, .fq12, .g1, .af1, .af2, .sp6, .sp12, .la]
  size : ∀ imm, k.size imm = n
  pos : 0 < n
  read_eq : ∀ s m, read s m = readAs (s.allFq m n) (shown s m) .noncanonical

theorem fq2Operand : FqOperand .fq2 2 State.readFq2 State.fq2At := ⟨by simp, fun _ => rfl, by decide, State.readFq2_eq⟩
theorem fq6Operand : FqOperand .fq6 6 State.readFq6 State.fq6At := ⟨by simp, fun _ => rfl, by decide, State.readFq6_eq⟩
theorem fq12Operand : FqOperand .fq12 12 State.readFq12 State.fq12At := ⟨by simp, fun _ => rfl, by decide, State.readFq12_eq⟩
theorem sp6Operand : FqOperand .sp6 4 State.readSp6 fun s m => sparse01 (s.fq2At m) (s.fq2At (m + 2)) :=
  ⟨by simp, fun _ => rfl, by decide, State.readSp6_eq⟩

section commands
variable {α β : Type} {s : State} {i : Instr} {op : BitVec 8} {d a b : SlotNo} {imm : Imm} {r : Form} {k kb : Kind} {n nb : Nat}
  {os : List (SlotNo × Kind)} {read : State → Nat → Result α} {shown : State → Nat → α} {readB : State → Nat → Result β}
  {shownB : State → Nat → β} {ws : List SlotWord}

/-- A readable operand is canonical and reads as the value it shows. -/
theorem FqOperand.readable (hk : FqOperand k n read shown) {m : Nat} (h : s.kindError imm m k = none) :
    s.allFq m n = true ∧ read s m = .ok (shown s m) := by
  have hcanon : s.allFq m n = true := hk.size imm ▸ State.allFq_of_readable h hk.kind
  exact ⟨hcanon, by rw [hk.read_eq, hcanon, readAs_true]⟩

/-- A ready command with a destination and a first source of one kind: its range check passes, the source is canonical and reads as
the value it shows, and the destination fits the slot file. -/
theorem FqOperand.ready (hk : FqOperand k n read shown) (h : s.Ready i) (he : encode i = encodeWord op d a b imm)
    (hr : formOf op.toNat = some r) (hd : r.usesD = true) (hops : i.operands = (d, k) :: (a, k) :: os) :
    checkSlots i.immField i.operands = .ok () ∧ (s.allFq a.toNat n = true ∧ read s a.toNat = .ok (shown s a.toNat)) ∧
      d.toNat + n ≤ 256 := by
  obtain ⟨hc, hreads⟩ := h.checks_pass he hr hd
  have hsize := hk.size i.immField
  rw [hops] at hreads
  refine ⟨hc, hk.readable (hreads (a, k) (by simp)), ?_⟩
  rw [hops] at hc
  exact hsize ▸ fits_of_checkSlots hc (hsize.symm ▸ hk.pos)

/-- A command that reads one value writes the words it makes of it. -/
theorem FqOperand.writes (hk : FqOperand k n read shown) (h : s.Ready i) (he : encode i = encodeWord op d a b imm)
    (hr : formOf op.toNat = some r) (hd : r.usesD = true) (hops : i.operands = (d, k) :: (a, k) :: os)
    {f : α → List SlotWord} (hf : ∀ x, (f x).length = n) (hws : s.allFq a.toNat n = true → f (shown s a.toNat) = ws) :
    s.Writes (s.finishSlots d (do checkSlots i.immField i.operands; let x ← read s a.toNat; return f x)) d ws := by
  obtain ⟨hc, ⟨hcanon, hread⟩, hfit⟩ := hk.ready h he hr hd hops
  exact hws hcanon ▸ s.writes_of_ok (checked_read_ok hc hread f) (hf _ ▸ hfit)

/-- A command that reads a value and refuses zero writes the words it makes of any other (42_tower.md R195, R205, R215). -/
theorem FqOperand.writes_nonzero [DecidableEq α] (hk : FqOperand k n read shown) (h : s.Ready i)
    (he : encode i = encodeWord op d a b imm) (hr : formOf op.toNat = some r) (hd : r.usesD = true)
    (hops : i.operands = (d, k) :: (a, k) :: os) {f : α → List SlotWord} (hf : ∀ x, (f x).length = n) {zero : α}
    (hne : shown s a.toNat ≠ zero) :
    s.Writes (s.finishSlots d (do
      checkSlots i.immField i.operands
      let x ← read s a.toNat
      if x = zero then throw .divisionByZero
      return f x)) d (f (shown s a.toNat)) := by
  obtain ⟨hc, ⟨-, hread⟩, hfit⟩ := hk.ready h he hr hd hops
  rw [hc, hread, result_ok_bind, result_ok_bind, if_neg hne]
  exact s.writes_of_ok rfl (hf _ ▸ hfit)

/-- A command that reads two values writes the words it makes of them. -/
theorem FqOperand.writes_binary (hk : FqOperand k n read shown) (hkb : FqOperand kb nb readB shownB) (h : s.Ready i)
    (he : encode i = encodeWord op d a b imm) (hr : formOf op.toNat = some r) (hd : r.usesD = true)
    (hops : i.operands = [(d, k), (a, k), (b, kb)]) {f : α → β → List SlotWord} (hf : ∀ x y, (f x y).length = n)
    (hws : s.allFq a.toNat n = true → s.allFq b.toNat nb = true → f (shown s a.toNat) (shownB s b.toNat) = ws) :
    s.Writes (s.finishSlots d (do
      checkSlots i.immField i.operands
      let x ← read s a.toNat
      let y ← readB s b.toNat
      return f x y)) d ws := by
  obtain ⟨hc, ⟨ha, hread⟩, hfit⟩ := hk.ready h he hr hd hops
  obtain ⟨-, hreads⟩ := h.checks_pass he hr hd
  rw [hops] at hreads
  obtain ⟨hb, hreadB⟩ := hkb.readable (hreads (b, kb) (by simp))
  exact hws ha hb ▸ s.writes_of_ok (checked_read_read_ok hc hread hreadB f) (hf _ _ ▸ hfit)

end commands

/-! ### Slot by slot (42_tower.md R180) -/

section slots
variable {s : State} {a b n : Nat}

/-- The words of the sums of two canonical runs. -/
theorem State.sumWords (ha : s.allFq a n = true) (hb : s.allFq b n = true) :
    ((List.range n).map fun k => fqToWord (s.fqAt (a + k) + s.fqAt (b + k))) =
      (List.range n).map fun k => addWord Config.q (s.slot (a + k)) (s.slot (b + k)) := by
  rw [State.allFq_iff] at ha hb
  exact List.map_congr_left fun k hk => fqView.word_add (ha k (List.mem_range.mp hk)) (hb k (List.mem_range.mp hk))

theorem State.differenceWords (ha : s.allFq a n = true) (hb : s.allFq b n = true) :
    ((List.range n).map fun k => fqToWord (s.fqAt (a + k) - s.fqAt (b + k))) =
      (List.range n).map fun k => subWord Config.q (s.slot (a + k)) (s.slot (b + k)) := by
  rw [State.allFq_iff] at ha hb
  exact List.map_congr_left fun k hk => fqView.word_sub (ha k (List.mem_range.mp hk)) (hb k (List.mem_range.mp hk))

theorem State.negativeWords (ha : s.allFq a n = true) :
    ((List.range n).map fun k => fqToWord (-s.fqAt (a + k))) =
      (List.range n).map fun k => negWord Config.q (s.slot (a + k)) := by
  rw [State.allFq_iff] at ha
  exact List.map_congr_left fun k hk => fqView.word_neg (ha k (List.mem_range.mp hk))

/-- The words of a canonical run with its slots from `m` on negated. -/
theorem State.conjugateWords (m : Nat) (ha : s.allFq a n = true) :
    ((List.range n).map fun k => fqToWord (if k < m then s.fqAt (a + k) else -s.fqAt (a + k))) =
      (List.range n).map fun k => if k < m then s.slot (a + k) else negWord Config.q (s.slot (a + k)) := by
  rw [State.allFq_iff] at ha
  refine List.map_congr_left fun k hk => ?_
  have hcanon := ha k (List.mem_range.mp hk)
  split
  · exact fqView.word_val hcanon
  · exact fqView.word_neg hcanon

end slots

/-- Settles O40: the coefficients of a sum, a difference, a negative or a conjugate are those of the slots, each on its own. -/
theorem towerLinearCommandsWorkSlotBySlot : Obligations.TowerLinearCommandsWorkSlotBySlot := fun _ _ _ _ =>
  ⟨fun h => fq2Operand.writes_binary fq2Operand h rfl rfl rfl rfl (fun _ _ => rfl) State.sumWords,
    fun h => fq6Operand.writes_binary fq6Operand h rfl rfl rfl rfl (fun _ _ => rfl) State.sumWords,
    fun h => fq12Operand.writes_binary fq12Operand h rfl rfl rfl rfl (fun _ _ => rfl) State.sumWords,
    fun h => fq2Operand.writes_binary fq2Operand h rfl rfl rfl rfl (fun _ _ => rfl) State.differenceWords,
    fun h => fq6Operand.writes_binary fq6Operand h rfl rfl rfl rfl (fun _ _ => rfl) State.differenceWords,
    fun h => fq12Operand.writes_binary fq12Operand h rfl rfl rfl rfl (fun _ _ => rfl) State.differenceWords,
    fun h => fq2Operand.writes h rfl rfl rfl rfl (fun _ => rfl) State.negativeWords,
    fun h => fq6Operand.writes h rfl rfl rfl rfl (fun _ => rfl) State.negativeWords,
    fun h => fq12Operand.writes h rfl rfl rfl rfl (fun _ => rfl) State.negativeWords,
    fun h => fq2Operand.writes h rfl rfl rfl rfl (fun _ => rfl) (State.conjugateWords 1),
    fun h => fq12Operand.writes h rfl rfl rfl rfl (fun _ => rfl) (State.conjugateWords 6)⟩

end Sys2Proof.Machine

/-! SUPPORT. Fq6 = Fq2[y]/(y^3 - xi) as a commutative ring and the multiplication of Fq12 = Fq6[w]/(w^2 - y) as a commutative monoid
(00_scope.md R13; 42_tower.md R180). -/

namespace Sys2Proof.Machine

/-! ### The ring Fq6 -/

theorem Fq6.add_assoc (a b c : Fq6) : (a.add b).add c = a.add (b.add c) := by
  simp only [Fq6.add, Fq2.add_assoc]

theorem Fq6.zero_add (a : Fq6) : Fq6.zero.add a = a := by
  simp only [Fq6.add, Fq6.zero, Fq2.zero_add]

theorem Fq6.neg_add_cancel (a : Fq6) : a.neg.add a = Fq6.zero := by
  simp only [Fq6.add, Fq6.neg, Fq6.zero, Fq2.neg_add_cancel]

theorem Fq6.sub_eq_add_neg (a b : Fq6) : a.sub b = a.add b.neg := by
  simp only [Fq6.add, Fq6.sub, Fq6.neg, Fq2.sub_eq_add_neg]

/-- Addition in Fq6 with the ring operations of Fq2. -/
theorem Fq6.add_eq (a b : Fq6) : letI := fq2Ring; a.add b = ⟨a.c0 + b.c0, a.c1 + b.c1, a.c2 + b.c2⟩ := rfl

theorem Fq6.mul_assoc (a b c : Fq6) : (a.mul b).mul c = a.mul (b.mul c) := by
  let := fq2Ring
  simp only [Fq6.mul_eq, Fq6.mk.injEq]
  refine ⟨?_, ?_, ?_⟩ <;> ring

theorem Fq6.mul_comm (a b : Fq6) : a.mul b = b.mul a := by
  let := fq2Ring
  simp only [Fq6.mul_eq, Fq6.mk.injEq]
  refine ⟨?_, ?_, ?_⟩ <;> ring

theorem Fq6.one_mul (a : Fq6) : Fq6.one.mul a = a := by
  let := fq2Ring
  have hone : Fq6.one = ⟨1, 0, 0⟩ := rfl
  obtain ⟨a0, a1, a2⟩ := a
  simp only [hone, Fq6.mul_eq, Fq6.mk.injEq]
  refine ⟨?_, ?_, ?_⟩ <;> ring

theorem Fq6.mul_add (a b c : Fq6) : a.mul (b.add c) = (a.mul b).add (a.mul c) := by
  let := fq2Ring
  simp only [Fq6.mul_eq, Fq6.add_eq, Fq6.mk.injEq]
  refine ⟨?_, ?_, ?_⟩ <;> ring

/-- Fq6 with the operations of 42_tower.md R200 to R203, as a ring. -/
abbrev fq6Ring : CommRing Fq6 :=
  letI : Zero Fq6 := ⟨Fq6.zero⟩
  letI : One Fq6 := ⟨Fq6.one⟩
  letI : Add Fq6 := ⟨Fq6.add⟩
  letI : Neg Fq6 := ⟨Fq6.neg⟩
  letI : Mul Fq6 := ⟨Fq6.mul⟩
  { CommRing.ofMinimalAxioms Fq6.add_assoc Fq6.zero_add Fq6.neg_add_cancel Fq6.mul_assoc Fq6.mul_comm Fq6.one_mul Fq6.mul_add with
    sub := Fq6.sub
    sub_eq_add_neg := Fq6.sub_eq_add_neg }

/-- The element y of Fq6, with y^3 = xi (00_scope.md R13). -/
def fq6Y : Fq6 := ⟨Fq2.zero, Fq2.one, Fq2.zero⟩

/-- An element of Fq2 in Fq6. -/
def Fq6.ofFq2 (k : Fq2) : Fq6 := ⟨k, Fq2.zero, Fq2.zero⟩

/-- MULNR is the product by y (42_tower.md R206). -/
theorem Fq6.mulNr_eq (a : Fq6) : a.mulNr = fq6Y.mul a := by
  let := fq2Ring
  have hy : fq6Y = ⟨0, 1, 0⟩ := rfl
  have hxi (c : Fq2) : c.mulXi = xi * c := Fq2.mulXi_eq c
  simp only [hy, Fq6.mulNr, hxi, Fq6.mul_eq, Fq6.mk.injEq]
  refine ⟨?_, ?_, ?_⟩ <;> ring

/-- Scaling is the product by an element of Fq2. -/
theorem Fq6.scale_eq (a : Fq6) (k : Fq2) : a.scale k = a.mul (Fq6.ofFq2 k) := by
  let := fq2Ring
  have hk : Fq6.ofFq2 k = ⟨k, 0, 0⟩ := rfl
  have hscale : a.scale k = ⟨a.c0 * k, a.c1 * k, a.c2 * k⟩ := rfl
  simp only [hk, hscale, Fq6.mul_eq, Fq6.mk.injEq]
  refine ⟨?_, ?_, ?_⟩ <;> ring

theorem Fq6.ofFq2_mul (k l : Fq2) : (Fq6.ofFq2 k).mul (Fq6.ofFq2 l) = Fq6.ofFq2 (k.mul l) := by
  rw [← Fq6.scale_eq, Fq6.ofFq2, Fq6.scale, Fq2.zero_mul]
  rfl

/-! ### The multiplication of Fq12 -/

/-- Multiplication in Fq12 with the ring operations of Fq6 (42_tower.md R180, R213). -/
theorem Fq12.mul_eq_ring (a b : Fq12) :
    letI := fq6Ring
    a.mul b = ⟨a.c0 * b.c0 + fq6Y * (a.c1 * b.c1), a.c0 * b.c1 + a.c1 * b.c0⟩ := by
  rw [Fq12.mul_eq, Fq6.mulNr_eq]
  rfl

theorem Fq12.mul_assoc (a b c : Fq12) : (a.mul b).mul c = a.mul (b.mul c) := by
  let := fq6Ring
  simp only [Fq12.mul_eq_ring, Fq12.mk.injEq]
  constructor <;> ring

theorem Fq12.mul_comm (a b : Fq12) : a.mul b = b.mul a := by
  let := fq6Ring
  simp only [Fq12.mul_eq_ring, Fq12.mk.injEq]
  constructor <;> ring

theorem Fq12.one_mul (a : Fq12) : Fq12.one.mul a = a := by
  let := fq6Ring
  have hone : Fq12.one = ⟨1, 0⟩ := rfl
  obtain ⟨a0, a1⟩ := a
  simp only [hone, Fq12.mul_eq_ring, Fq12.mk.injEq]
  constructor <;> ring

/-- Fq12 with its multiplication (42_tower.md R213), as a monoid. -/
abbrev fq12Monoid : CommMonoid Fq12 where
  mul := Fq12.mul
  one := Fq12.one
  mul_assoc := Fq12.mul_assoc
  mul_comm := Fq12.mul_comm
  one_mul := Fq12.one_mul
  mul_one := fun a => (Fq12.mul_comm a _).trans (Fq12.one_mul a)

/-- Exponentiation in Fq12 is the power of its multiplication (42_tower.md R220). -/
theorem Fq12.exp_eq_pow (a : Fq12) (e : Nat) : letI := fq12Monoid; a.exp e = a ^ e :=
  @expInt_eq_pow Fq12 fq12Monoid.toMonoid a e

end Sys2Proof.Machine

/-! SUPPORT. The products, inversions and powers of the tower (42_tower.md R183, R193 to R197, R203 to R207, R215, R220). -/

namespace Sys2Proof.Machine

/-! ### Products -/

section fq2
open Fin.CommRing

theorem Fq2.mul_schoolbook (a b : Fq2) : a.mul b = ⟨a.c0 * b.c0 - a.c1 * b.c1, a.c0 * b.c1 + a.c1 * b.c0⟩ := by
  simp only [Fq2.mul, Fq2.mk.injEq, true_and]
  ring

/-- The squaring formula of 42_tower.md R183. -/
theorem Fq2.square_eq (a : Fq2) : a.square = ⟨(a.c0 + a.c1) * (a.c0 - a.c1), twice (a.c0 * a.c1)⟩ := by
  simp only [Fq2.square, Fq2.mul, twice, Fq2.mk.injEq]
  constructor <;> ring

/-- A value times its conjugate-over-norm is the norm times the norm's inverse. -/
theorem Fq2.mul_inverse (a : Fq2) :
    a.mul a.inverse = ⟨(a.c0 * a.c0 + a.c1 * a.c1) * fqInverse (a.c0 * a.c0 + a.c1 * a.c1), 0⟩ := by
  simp only [Fq2.inverse, Fq2.mul, Fq2.mk.injEq]
  constructor <;> ring

end fq2

/-- The Karatsuba formula of 42_tower.md R180 has the value of the product. -/
theorem fq6Karatsuba_eq (a b : Fq6) : fq6Karatsuba a b = a.mul b := by
  let := fq2Ring
  have hxi (c : Fq2) : c.mulXi = xi * c := Fq2.mulXi_eq c
  rw [Fq6.mul_eq, fq6Karatsuba, hxi, hxi, Fq6.mk.injEq]
  change xi * ((a.c1 + a.c2) * (b.c1 + b.c2) - a.c1 * b.c1 - a.c2 * b.c2) + a.c0 * b.c0 = _ ∧
    (a.c0 + a.c1) * (b.c0 + b.c1) - a.c0 * b.c0 - a.c1 * b.c1 + xi * (a.c2 * b.c2) = _ ∧
    (a.c0 + a.c2) * (b.c0 + b.c2) - a.c0 * b.c0 - a.c2 * b.c2 + a.c1 * b.c1 = _
  refine ⟨?_, ?_, ?_⟩ <;> ring

/-- Settles O41: each command writes a product, which the formulas compute. -/
theorem fq2AndFq6Products : Obligations.Fq2AndFq6Products := by
  intro s d a b x y u v
  refine ⟨fun h => ?mul2, fun h => ?sqr2, fun h => ?mulxi, fun h => ?mul6, fun h => ?sqr6, fun h => ?spmul01, fun h => ?mulnr⟩
  case mul2 =>
    exact fq2Operand.writes_binary fq2Operand h rfl rfl rfl rfl (fun _ _ => rfl) fun _ _ =>
      congrArg fq2Words (x.mul_schoolbook y)
  case sqr2 => exact fq2Operand.writes h rfl rfl rfl rfl (fun _ => rfl) fun _ => congrArg fq2Words x.square_eq
  case mulxi =>
    exact fq2Operand.writes h rfl rfl rfl rfl (fun _ => rfl) fun _ =>
      congrArg fq2Words (x.mulXi_eq.trans (Fq2.mul_comm xi x))
  case mul6 =>
    exact fq6Operand.writes_binary fq6Operand h rfl rfl rfl rfl (fun _ _ => rfl) fun _ _ =>
      congrArg fq6Words (fq6Karatsuba_eq u v).symm
  case sqr6 => exact fq6Operand.writes h rfl rfl rfl rfl (fun _ => rfl) fun _ => congrArg fq6Words (fq6Karatsuba_eq u u).symm
  case spmul01 =>
    exact fq6Operand.writes_binary sp6Operand h rfl rfl rfl rfl (fun _ _ => rfl) fun _ _ =>
      congrArg fq6Words (fq6Karatsuba_eq u _).symm
  case mulnr =>
    have hmulnr : u.mulNr = fq6Karatsuba u fq6Y := by rw [fq6Karatsuba_eq, Fq6.mulNr_eq, Fq6.mul_comm]
    exact fq6Operand.writes h rfl rfl rfl rfl (fun _ => rfl) fun _ => congrArg fq6Words hmulnr

/-! ### Inversions (42_tower.md R183, R195, R205, R215) -/

/-- The norm of an Fq6 element to Fq2 (42_tower.md R183). -/
def Fq6.norm (a : Fq6) : Fq2 :=
  (a.c0.mul ((a.c0.mul a.c0).sub (a.c1.mul a.c2).mulXi)).add
    ((a.c2.mul ((a.c2.mul a.c2).mulXi.sub (a.c0.mul a.c1))).add (a.c1.mul ((a.c1.mul a.c1).sub (a.c0.mul a.c2)))).mulXi

/-- The norm of an Fq12 element to Fq6 (42_tower.md R215). -/
def Fq12.norm (a : Fq12) : Fq6 := (a.c0.mul a.c0).sub (a.c1.mul a.c1).mulNr

/-- The inverse formula of Fq6 multiplies by the norm's inverse three values whose combination with the coefficients is the norm in
degree 0 and cancels in the others. -/
theorem Fq6.mul_inverse (a : Fq6) : a.mul a.inverse = ⟨a.norm.mul a.norm.inverse, Fq2.zero, Fq2.zero⟩ := by
  let := fq2Ring
  have hxi (c : Fq2) : c.mulXi = xi * c := Fq2.mulXi_eq c
  have hnorm : a.norm = a.c0 * (a.c0 * a.c0 - xi * (a.c1 * a.c2)) +
      xi * (a.c2 * (xi * (a.c2 * a.c2) - a.c0 * a.c1) + a.c1 * (a.c1 * a.c1 - a.c0 * a.c2)) := by
    simp only [← hxi]; rfl
  have hinverse : a.inverse = ⟨(a.c0 * a.c0 - xi * (a.c1 * a.c2)) * a.norm.inverse,
      (xi * (a.c2 * a.c2) - a.c0 * a.c1) * a.norm.inverse, (a.c1 * a.c1 - a.c0 * a.c2) * a.norm.inverse⟩ := by
    simp only [← hxi]; rfl
  have hgoal : (⟨a.norm.mul a.norm.inverse, Fq2.zero, Fq2.zero⟩ : Fq6) = ⟨a.norm * a.norm.inverse, 0, 0⟩ := rfl
  rw [hinverse, Fq6.mul_eq, hgoal, Fq6.mk.injEq]
  generalize a.norm.inverse = n
  rw [hnorm]
  refine ⟨?_, ?_, ?_⟩ <;> ring

theorem Fq12.mul_inverse (a : Fq12) : a.mul a.inverse = ⟨a.norm.mul a.norm.inverse, Fq6.zero⟩ := by
  let := fq6Ring
  have hnorm : a.norm = a.c0 * a.c0 - fq6Y * (a.c1 * a.c1) := by
    rw [Fq12.norm, Fq6.mulNr_eq]; rfl
  have hinverse : a.inverse = ⟨a.c0 * a.norm.inverse, -(a.c1 * a.norm.inverse)⟩ := rfl
  have hgoal : (⟨a.norm.mul a.norm.inverse, Fq6.zero⟩ : Fq12) = ⟨a.norm * a.norm.inverse, 0⟩ := rfl
  rw [hinverse, Fq12.mul_eq_ring, hgoal, Fq12.mk.injEq]
  generalize a.norm.inverse = n
  rw [hnorm]
  constructor <;> ring

/-- Settles O43: of a non-zero value each command writes the inverse formula's value. -/
theorem towerInversions : Obligations.TowerInversions :=
  ⟨fun _ _ _ => ⟨fun h hne => fq2Operand.writes_nonzero h rfl rfl rfl rfl (fun _ => rfl) hne,
      fun h hne => fq6Operand.writes_nonzero h rfl rfl rfl rfl (fun _ => rfl) hne,
      fun h hne => fq12Operand.writes_nonzero h rfl rfl rfl rfl (fun _ => rfl) hne⟩,
    Fq2.mul_inverse, fun z => ⟨z.norm, rfl, z.mul_inverse⟩, fun z => ⟨z.norm, rfl, z.mul_inverse⟩⟩

/-! ### Powers (42_tower.md R220) -/

/-- Settles O44: square-and-multiply is the power of the monoid, which is the repeated product. -/
theorem fq12ExpIsTheRepeatedProduct : Obligations.Fq12ExpIsTheRepeatedProduct := by
  refine ⟨fun s d a b imm h => ?_, fun x => ?_⟩
  · rw [← State.readExp_eq]
    exact fq12Operand.writes h rfl rfl rfl rfl (fun _ => rfl) fun _ => rfl
  · let := fq12Monoid
    rw [Fq12.exp_eq_pow]
    refine ⟨pow_zero x, fun e => ?_⟩
    rw [Fq12.exp_eq_pow, Fq12.exp_eq_pow]
    exact pow_succ x e

end Sys2Proof.Machine

/-! SUPPORT. The Frobenius maps of the tower (42_tower.md R181, R182): conjugation at the bottom, and scaling by tables that compose
like powers of xi. -/

namespace Sys2Proof.Machine

/-! ### Fq2 -/

section fq2
variable (a b : Fq2) (j k : Nat)
open Fin.CommRing

theorem Fq2.conj_conj : a.conj.conj = a := by
  simp only [Fq2.conj, neg_neg]

theorem Fq2.frob_even : a.frob (2 * k) = a := if_pos (Nat.mul_mod_right 2 k)

theorem Fq2.frob_odd : a.frob (2 * k + 1) = a.conj := if_neg (by omega)

/-- The power of a Frobenius map of Fq2 counts modulo any even number. -/
theorem Fq2.frob_mod {n : Nat} (hn : 2 ∣ n) : a.frob (k % n) = a.frob k := by
  rw [Fq2.frob, Fq2.frob, Nat.mod_mod_of_dvd k hn]

/-- The power is even or odd: the map is the identity or conjugation. -/
theorem Fq2.frob_cases : (k % 2 = 0 ∧ ∀ c : Fq2, c.frob k = c) ∨ (k % 2 = 1 ∧ ∀ c : Fq2, c.frob k = c.conj) := by
  obtain hk | hk := Nat.mod_two_eq_zero_or_one k
  · exact .inl ⟨hk, fun c => if_pos hk⟩
  · exact .inr ⟨hk, fun c => if_neg (by omega)⟩

theorem Fq2.frob_frob : (a.frob j).frob k = a.frob (j + k) := by
  obtain ⟨hj, hfj⟩ | ⟨hj, hfj⟩ := Fq2.frob_cases j <;> obtain ⟨hk, hfk⟩ | ⟨hk, hfk⟩ := Fq2.frob_cases k <;>
    rw [hfk, hfj, Fq2.frob]
  · rw [if_pos (by omega)]
  · rw [if_neg (by omega)]
  · rw [if_neg (by omega)]
  · rw [if_pos (by omega), Fq2.conj_conj]

theorem Fq2.frob_add : (a.add b).frob k = (a.frob k).add (b.frob k) := by
  obtain ⟨-, hf⟩ | ⟨-, hf⟩ := Fq2.frob_cases k <;> simp only [hf, Fq2.conj_add]

theorem Fq2.frob_mul : (a.mul b).frob k = (a.frob k).mul (b.frob k) := by
  obtain ⟨-, hf⟩ | ⟨-, hf⟩ := Fq2.frob_cases k <;> simp only [hf, Fq2.conj_mul]

theorem Fq2.zero_frob : Fq2.zero.frob k = Fq2.zero := by
  obtain ⟨-, hf⟩ | ⟨-, hf⟩ := Fq2.frob_cases k <;> rw [hf]
  simp only [Fq2.conj, Fq2.zero, neg_zero]

theorem Fq2.one_frob : Fq2.one.frob k = Fq2.one := by
  obtain ⟨-, hf⟩ | ⟨-, hf⟩ := Fq2.frob_cases k <;> rw [hf]
  simp only [Fq2.conj, Fq2.one, neg_zero]

end fq2

/-! ### The tables (42_tower.md R181) -/

/-- A table of an even number `n` of entries that compose as the powers xi^((q^j - 1)/d) do: the entry for `j + k` is that for `j`,
mapped by Frobenius to the power `k`, times that for `k`. -/
structure ComposingTable (n : Nat) (γ : Nat → Fq2) : Prop where
  pos : 0 < n
  even : 2 ∣ n
  compose : ∀ j < n, ∀ k < n, ((γ j).frob k).mul (γ k) = γ ((j + k) % n)

theorem gamma61_composing : ComposingTable 6 gamma61 := ⟨by decide, by decide, by decide +kernel⟩
theorem gamma62_composing : ComposingTable 6 gamma62 := ⟨by decide, by decide, by decide +kernel⟩
theorem gamma12_composing : ComposingTable 12 gamma12 := ⟨by decide, by decide, by decide +kernel⟩

/-- The cross-checks of 42_tower.md R181 between the tables. -/
theorem gamma61_square : ∀ j < 6, (gamma61 j).mul (gamma61 j) = gamma62 j := by decide +kernel
theorem gamma12_square : ∀ j < 12, (gamma12 j).mul (gamma12 j) = gamma61 (j % 6) := by decide +kernel

/-- The entries for y and y^2 carry y^3 = xi over: xi mapped by Frobenius is xi scaled by both. -/
theorem xi_mul_gamma61_mul_gamma62 : ∀ j < 6, xi.mul ((gamma61 j).mul (gamma62 j)) = xi.frob j := by decide +kernel

/-- A table composes at all powers, counted modulo its length. -/
theorem ComposingTable.compose_mod {n : Nat} {γ : Nat → Fq2} (h : ComposingTable n γ) (j k : Nat) :
    ((γ (j % n)).frob k).mul (γ (k % n)) = γ ((j + k) % n) := by
  rw [← Fq2.frob_mod _ k h.even, h.compose _ (Nat.mod_lt j h.pos) _ (Nat.mod_lt k h.pos), ← Nat.add_mod]

/-- A coefficient that is mapped and scaled twice is mapped and scaled by the sum of the powers. -/
theorem ComposingTable.frob_scaled {n : Nat} {γ : Nat → Fq2} (h : ComposingTable n γ) (a : Fq2) (j k : Nat) :
    (((a.frob j).mul (γ (j % n))).frob k).mul (γ (k % n)) = (a.frob (j + k)).mul (γ ((j + k) % n)) := by
  rw [Fq2.frob_mul, Fq2.frob_frob, Fq2.mul_assoc, h.compose_mod]

/-! ### Fq6 -/

section fq6
variable (a b : Fq6) (j k : Nat)

/-- The Frobenius map of Fq6 with the power counted modulo 6 only in the tables. -/
theorem Fq6.frob_eq :
    a.frob k = ⟨a.c0.frob k, (a.c1.frob k).mul (gamma61 (k % 6)), (a.c2.frob k).mul (gamma62 (k % 6))⟩ := by
  have hmod (c : Fq2) : c.frob (k % 6) = c.frob k := c.frob_mod k (by decide)
  rw [← hmod, ← hmod, ← hmod]
  rfl

theorem Fq6.frob_frob : (a.frob j).frob k = a.frob (j + k) := by
  simp only [Fq6.frob_eq, Fq2.frob_frob, gamma61_composing.frob_scaled, gamma62_composing.frob_scaled]

theorem Fq6.frob_mul_six : a.frob (6 * k) = a := by
  have hone (c : Fq2) : c.mul ⟨1, 0⟩ = c := (Fq2.mul_comm c _).trans (Fq2.one_mul c)
  have hfrob (c : Fq2) : c.frob (6 * k) = c := by rw [← c.frob_mod (6 * k) (n := 6) (by decide), Nat.mul_mod_right]; rfl
  rw [Fq6.frob_eq, Nat.mul_mod_right, hfrob, hfrob, hfrob, gamma61, gamma62, hone, hone]

theorem Fq6.frob_add : (a.add b).frob k = (a.frob k).add (b.frob k) := by
  let := fq2Ring
  have hdistrib (c d e : Fq2) : (c.add d).mul e = (c.mul e).add (d.mul e) := add_mul c d e
  simp only [Fq6.frob_eq, Fq6.add, Fq2.frob_add, hdistrib]

theorem Fq6.frob_mul : (a.mul b).frob k = (a.frob k).mul (b.frob k) := by
  let := fq2Ring
  have hlt : k % 6 < 6 := Nat.mod_lt k (by decide)
  have hxi : xi.frob k = xi * (gamma61 (k % 6) * gamma62 (k % 6)) := by
    rw [← xi.frob_mod k (n := 6) (by decide)]
    exact (xi_mul_gamma61_mul_gamma62 _ hlt).symm
  have hsquare : gamma62 (k % 6) = gamma61 (k % 6) * gamma61 (k % 6) := (gamma61_square _ hlt).symm
  have hadd (c d : Fq2) : (c + d).frob k = c.frob k + d.frob k := c.frob_add d k
  have hmul (c d : Fq2) : (c * d).frob k = c.frob k * d.frob k := c.frob_mul d k
  have hring (c d : Fq2) : c.mul d = c * d := rfl
  simp only [Fq6.frob_eq, Fq6.mul_eq, hadd, hmul, hring, hxi, hsquare, Fq6.mk.injEq]
  refine ⟨?_, ?_, ?_⟩ <;> ring

theorem Fq6.frob_ofFq2 (c : Fq2) : (Fq6.ofFq2 c).frob k = Fq6.ofFq2 (c.frob k) := by
  simp only [Fq6.frob_eq, Fq6.ofFq2, Fq2.zero_frob, Fq2.zero_mul]

/-- Frobenius scales y by its entry in the table. -/
theorem fq6Y_frob : fq6Y.frob k = fq6Y.mul (Fq6.ofFq2 (gamma61 (k % 6))) := by
  simp only [← Fq6.scale_eq, Fq6.frob_eq, fq6Y, Fq6.scale, Fq2.zero_frob, Fq2.one_frob, Fq2.zero_mul]

end fq6

/-! ### Fq12 -/

section fq12
variable (a b : Fq12) (j k : Nat)

/-- The Frobenius map of Fq12 with the power counted modulo 12 only in the table. -/
theorem Fq12.frob_eq : a.frob k = ⟨a.c0.frob k, (a.c1.frob k).mul (Fq6.ofFq2 (gamma12 (k % 12)))⟩ := by
  have hmod (c : Fq6) : c.frob (k % 12) = c.frob k := by
    rw [Fq6.frob, Fq6.frob, Nat.mod_mod_of_dvd k (by decide)]
  rw [← hmod, ← hmod, ← Fq6.scale_eq]
  rfl

theorem Fq12.frob_frob : (a.frob j).frob k = a.frob (j + k) := by
  simp only [Fq12.frob_eq, Fq6.frob_mul, Fq6.frob_frob, Fq6.frob_ofFq2, Fq6.mul_assoc, Fq6.ofFq2_mul,
    gamma12_composing.compose_mod]

theorem Fq12.frob_mul_twelve : a.frob (12 * k) = a := by
  have hone (c : Fq6) : c.mul (Fq6.ofFq2 ⟨1, 0⟩) = c := (Fq6.mul_comm c _).trans (Fq6.one_mul c)
  have hfrob (c : Fq6) : c.frob (12 * k) = c := by rw [show 12 * k = 6 * (2 * k) by ring, Fq6.frob_mul_six]
  rw [Fq12.frob_eq, Nat.mul_mod_right, hfrob, hfrob, gamma12, hone]

/-- Power 6 negates the coefficient of w, for w^(q^6) = -w. -/
theorem Fq12.frob_six : a.frob 6 = a.conj := by
  let := fq6Ring
  have hminus : Fq6.ofFq2 (gamma12 6) = -1 := by decide +kernel
  have hneg (c : Fq6) : c.mul (-1) = c.neg := mul_neg_one c
  rw [Fq12.frob_eq, a.c0.frob_mul_six 1, a.c1.frob_mul_six 1, Nat.mod_eq_of_lt (by decide), hminus, hneg]
  rfl

theorem Fq12.frob_mul : (a.mul b).frob k = (a.frob k).mul (b.frob k) := by
  let := fq6Ring
  have hy : fq6Y.frob k = fq6Y * (Fq6.ofFq2 (gamma12 (k % 12)) * Fq6.ofFq2 (gamma12 (k % 12))) := by
    have hsquare := gamma12_square _ (Nat.mod_lt k (by decide))
    rw [Nat.mod_mod_of_dvd k (by decide)] at hsquare
    rw [fq6Y_frob, ← hsquare, ← Fq6.ofFq2_mul]
    rfl
  have hadd (c d : Fq6) : (c + d).frob k = c.frob k + d.frob k := c.frob_add d k
  have hmul (c d : Fq6) : (c * d).frob k = c.frob k * d.frob k := c.frob_mul d k
  have hring (c d : Fq6) : c.mul d = c * d := rfl
  simp only [Fq12.frob_eq, Fq12.mul_eq_ring, hadd, hmul, hring, hy, Fq12.mk.injEq]
  constructor <;> ring

end fq12

/-- Settles O45: the maps are written, and the tables make their powers add up. -/
theorem frobeniusCommands : Obligations.FrobeniusCommands :=
  ⟨fun _ _ _ _ => ⟨fun h => fq2Operand.writes h rfl rfl rfl rfl (fun _ => rfl) fun _ => rfl,
      fun h => fq6Operand.writes h rfl rfl rfl rfl (fun _ => rfl) fun _ => rfl,
      fun h => fq12Operand.writes h rfl rfl rfl rfl (fun _ => rfl) fun _ => rfl⟩,
    fun x k => ⟨x.frob_even k, x.frob_odd k⟩, fun x j k => ⟨x.frob_mul_six k, x.frob_frob j k⟩,
    fun x j k => ⟨x.frob_mul_twelve k, x.frob_six, x.frob_frob j k⟩⟩

/-- Settles O46: conjugation respects products, and the tables carry y^3 = xi and w^2 = y over. -/
theorem frobeniusRespectsProducts : Obligations.FrobeniusRespectsProducts := ⟨Fq6.frob_mul, Fq12.frob_mul⟩

end Sys2Proof.Machine

/-! SUPPORT. The G1 commands on readable operands: the words of the points they write. -/

namespace Sys2Proof.Machine

theorem g1Operand : FqOperand .g1 3 State.readG1 State.g1At := ⟨by simp, fun _ => rfl, by decide, State.readG1_eq⟩

/-- After its checks and a read that passes, a command goes on with the value it read. -/
theorem checked_read_bind {α β : Type} {imm : Imm} {os : List (SlotNo × Kind)} {ra : Result α} {x : α}
    (hc : checkSlots imm os = .ok ()) (ha : ra = .ok x) (f : α → Result β) :
    (do checkSlots imm os; let x ← ra; f x : Result β) = f x := by
  rw [hc, ha, result_ok_bind, result_ok_bind]

/-! ### Words of points that slots show -/

section shown
variable {s : State} {n : Nat}

/-- A readable G1 point is written back to the words it was read from. -/
theorem State.g1Words_g1At (h : s.allFq n 3 = true) : g1Words (s.g1At n) = [s.slot n, s.slot (n + 1), s.slot (n + 2)] := by
  have hcanon := (s.allFq_iff n 3).mp h
  change [fqToWord (s.fqAt (n + 0)), fqToWord (s.fqAt (n + 1)), fqToWord (s.fqAt (n + 2))] = _
  rw [State.fqToWord_fqAt (hcanon 0 (by omega)), State.fqToWord_fqAt (hcanon 1 (by omega)),
    State.fqToWord_fqAt (hcanon 2 (by omega))]
  rfl

/-- The negative of a readable G1 point differs from it in the slot of Y (43_groups.md R240). -/
theorem State.g1Words_neg_g1At (h : s.allFq n 3 = true) :
    g1Words (g1Neg (s.g1At n)) = [s.slot n, negWord Config.q (s.slot (n + 1)), s.slot (n + 2)] := by
  have hcanon := (s.allFq_iff n 3).mp h
  have hy : fqToWord (-s.fqAt (n + 1)) = negWord Config.q (s.slot (n + 1)) := fqView.word_neg (hcanon 1 (by omega))
  change [fqToWord (s.fqAt (n + 0)), fqToWord (-s.fqAt (n + 1)), fqToWord (s.fqAt (n + 2))] = _
  rw [hy, State.fqToWord_fqAt (hcanon 0 (by omega)), State.fqToWord_fqAt (hcanon 2 (by omega))]
  rfl

/-- A point made of two readable coordinates and Z = 1 keeps their words (43_groups.md R258). -/
theorem State.g1Words_affine (h : s.allFq n 2 = true) :
    g1Words ⟨s.fqAt n, s.fqAt (n + 1), 1⟩ = [s.slot n, s.slot (n + 1), fqToWord 1] := by
  have hcanon := (s.allFq_iff n 2).mp h
  change [fqToWord (s.fqAt (n + 0)), fqToWord (s.fqAt (n + 1)), fqToWord 1] = _
  rw [State.fqToWord_fqAt (hcanon 0 (by omega)), State.fqToWord_fqAt (hcanon 1 (by omega))]
  rfl

end shown

/-- The identity (1, 1, 0) is written with the word 0 for Z (43_groups.md R242). -/
theorem g1Words_g1Ident : g1Words g1Ident = [fqToWord 1, fqToWord 1, 0] := by
  change [fqToWord 1, fqToWord 1, fqToWord 0] = _
  rw [fqView.word_zero]
  rfl

/-! ### The commands -/

section g1
variable {s : State} {d a b : SlotNo}

/-- The two coefficients of Decompose1 (44_lattice.md R291). -/
theorem decompose1_two (n : Nat) : ∃ c0 c1, decompose1 n = [c0, c1] := ⟨_, _, rfl⟩

theorem execG1Smulglv_writes (h : s.Ready (.g1Smulglv d a b)) (hk : (s.slot b.toNat).toNat < Config.r) :
    s.Writes (exec (.g1Smulglv d a b) s) d (g1Words (g1MultiMul
      ([s.g1At a.toNat, endo (s.g1At a.toNat)].zip (decompose1 (s.slot b.toNat).toNat)))) := by
  obtain ⟨hc, ⟨-, hread⟩, hfit⟩ := g1Operand.ready h rfl rfl rfl rfl
  exact s.writes_of_ok (checked_read_scalar_ok hc hread hk _) hfit

theorem execG1Smulglv_writes_multiMul (h : s.Ready (.g1Smulglv d a b)) (hk : (s.slot b.toNat).toNat < Config.r) :
    let P := s.g1At a.toNat
    ∃ c0 c1, decompose1 (s.slot b.toNat).toNat = [c0, c1] ∧
      s.Writes (exec (.g1Smulglv d a b) s) d (g1Words (g1MultiMul [(P, c0), (endo P, c1)])) := by
  obtain ⟨c0, c1, hcs⟩ := decompose1_two (s.slot b.toNat).toNat
  have hw := execG1Smulglv_writes h hk
  rw [hcs] at hw
  exact ⟨c0, c1, hcs, hw⟩

/-- TOAFF of a point with Z = 1 copies its slots (43_groups.md R255). -/
theorem execG1Toaff_writes_one (h : s.Ready (.g1Toaff d a)) (hone : (s.g1At a.toNat).z = 1) :
    s.Writes (exec (.g1Toaff d a) s) d [s.slot a.toNat, s.slot (a.toNat + 1), s.slot (a.toNat + 2)] := by
  obtain ⟨hc, ⟨hcanon, hread⟩, hfit⟩ := g1Operand.ready h rfl rfl rfl rfl
  rw [← State.g1Words_g1At hcanon]
  exact s.writes_of_ok ((checked_read_bind hc hread _).trans (if_pos hone)) hfit

/-- TOAFF of any other point that is no identity writes its affine point (43_groups.md R255). -/
theorem execG1Toaff_writes_affine (h : s.Ready (.g1Toaff d a)) (hone : (s.g1At a.toNat).z ≠ 1) (hzero : (s.g1At a.toNat).z ≠ 0) :
    let P := s.g1At a.toNat
    s.Writes (exec (.g1Toaff d a) s) d
      (g1Words ⟨P.x * (fqInverse P.z * fqInverse P.z), P.y * (fqInverse P.z * fqInverse P.z * fqInverse P.z), 1⟩) := by
  obtain ⟨hc, ⟨-, hread⟩, hfit⟩ := g1Operand.ready h rfl rfl rfl rfl
  exact s.writes_of_ok ((checked_read_bind hc hread _).trans ((if_neg hone).trans (if_neg hzero))) hfit

theorem execG1Fromaff_writes (h : s.Ready (.g1Fromaff d a)) :
    s.Writes (exec (.g1Fromaff d a) s) d [s.slot a.toNat, s.slot (a.toNat + 1), fqToWord 1] := by
  obtain ⟨hc, hr⟩ := h.checks_pass rfl rfl rfl
  have hA := hr (a, .af1) (by simp [Instr.operands])
  rw [← State.g1Words_affine (State.allFq_of_readable hA (by simp))]
  exact s.writes_of_ok (checked_read_ok hc (State.readAff1_ok hA) _) (fits_of_checkSlots hc (Nat.succ_pos _))

theorem execG1Ident_writes (h : s.Ready (.g1Ident d)) : s.Writes (exec (.g1Ident d) s) d [fqToWord 1, fqToWord 1, 0] := by
  obtain ⟨hc, -⟩ := h.checks_pass rfl rfl rfl
  rw [← g1Words_g1Ident]
  exact s.writes_of_ok (checked_ok hc _) (fits_of_checkSlots hc (Nat.succ_pos _))

end g1

/-- Settles O47: each command reads its point and writes the words of its function's value. -/
theorem g1CommandsWriteTheirPoint : Obligations.G1CommandsWriteTheirPoint := by
  intro s d a b
  refine ⟨fun h => ?add, fun h => ?dbl, fun h => ?neg, fun h => ?smul, execG1Smulglv_writes_multiMul, execG1Toaff_writes_one,
    execG1Toaff_writes_affine, fun h => ?endo, execG1Fromaff_writes, execG1Ident_writes⟩
  case add => exact g1Operand.writes_binary g1Operand h rfl rfl rfl rfl (fun _ _ => rfl) fun _ _ => rfl
  case dbl => exact g1Operand.writes h rfl rfl rfl rfl (fun _ => rfl) fun _ => rfl
  case neg => exact g1Operand.writes h rfl rfl rfl rfl (fun _ => rfl) State.g1Words_neg_g1At
  case smul => exact g1Operand.writes h rfl rfl rfl rfl (fun _ => rfl) fun _ => rfl
  case endo => exact g1Operand.writes h rfl rfl rfl rfl (fun _ => rfl) fun _ => rfl

end Sys2Proof.Machine

/-! SUPPORT. The laws of the Jacobian point functions of 43_groups.md over any commutative ring: identities, representations of one
point, and a point and its negative. With them the equality commands of both groups. -/

namespace Sys2Proof.Machine

section ops
variable {F : Type} [FieldOps F] [DecidableEq F] {P Q : Jac F}

theorem jacEq_of_identity (h : P.z = 0 ∨ Q.z = 0) : jacEq P Q = decide (P.z = 0 ∧ Q.z = 0) := if_pos h

theorem jacEq_of_not_identity (hP : P.z ≠ 0) (hQ : Q.z ≠ 0) :
    jacEq P Q = decide (P.x * sqr Q.z = Q.x * sqr P.z ∧ P.y * (sqr Q.z * Q.z) = Q.y * (sqr P.z * P.z)) :=
  if_neg (not_or.mpr ⟨hP, hQ⟩)

theorem jacAdd_of_left_identity (hP : P.z = 0) : jacAdd P Q = Q := if_pos hP

theorem jacAdd_of_right_identity (hP : P.z ≠ 0) (hQ : Q.z = 0) : jacAdd P Q = P := (if_neg hP).trans (if_pos hQ)

/-- A point that is no identity is equal to one that is none either, and by cross-multiplication. -/
theorem jacEq_iff (hP : P.z ≠ 0) :
    jacEq P Q = true ↔ Q.z ≠ 0 ∧ P.x * sqr Q.z = Q.x * sqr P.z ∧ P.y * (sqr Q.z * Q.z) = Q.y * (sqr P.z * P.z) := by
  by_cases hQ : Q.z = 0
  · simp [jacEq_of_identity (.inr hQ), hP, hQ]
  · simp [jacEq_of_not_identity hP hQ, hQ]

end ops

section ring
variable {F : Type} [CommRing F] (inv : F → F) {P Q : Jac F}

theorem jacDbl_identity (hP : P.z = 0) : (@jacDbl F (ringOps inv) P).z = 0 := by
  simp only [jacDbl, twice, hP]
  ring

/-- Dbl fixes (1, 1, 0) (43_groups.md R242). -/
theorem jacDbl_jacIdent : @jacDbl F (ringOps inv) (@jacIdent F (ringOps inv)) = @jacIdent F (ringOps inv) := by
  simp only [jacDbl, jacIdent, sqr, twice, thrice, Jac.mk.injEq]
  refine ⟨?_, ?_, ?_⟩ <;> ring

variable [DecidableEq F]

/-- (X, Y, Z) and (k^2·X, k^3·Y, k·Z) are equal points (43_groups.md R240). -/
theorem jacEq_scaled {k : F} (hP : P.z ≠ 0) (hk : k * P.z ≠ 0) :
    @jacEq F (ringOps inv) _ P ⟨k * k * P.x, k * k * k * P.y, k * P.z⟩ = true := by
  refine (@jacEq_iff F (ringOps inv) _ _ _ hP).mpr ⟨hk, ?_, ?_⟩ <;> simp only [sqr] <;> ring

/-- What Add makes of two points with one affine x: H is 0, so it doubles where rr is 0 too, and otherwise every term with a factor
H vanishes (43_groups.md R240, R243). -/
theorem jacAdd_of_same_x (hP : P.z ≠ 0) (hQ : Q.z ≠ 0) (hx : P.x * (Q.z * Q.z) = Q.x * (P.z * P.z)) {rr : F}
    (hrr : rr = 2 * (Q.y * P.z * (P.z * P.z) - P.y * Q.z * (Q.z * Q.z))) :
    @jacAdd F (ringOps inv) _ P Q = if rr = 0 then @jacDbl F (ringOps inv) P else ⟨rr * rr, -(rr * rr * rr), 0⟩ := by
  have hrise : twice (Q.y * P.z * (P.z * P.z) - P.y * Q.z * (Q.z * Q.z)) = rr := by rw [hrr, twice, two_mul]
  simp only [jacAdd, sqr, if_neg hP, if_neg hQ, hx, sub_self, hrise, true_and]
  refine if_congr Iff.rfl rfl ?_
  simp only [twice, Jac.mk.injEq]
  refine ⟨?_, ?_, ?_⟩ <;> ring

/-- Add of two representations of a point is its double (43_groups.md R243). -/
theorem jacAdd_of_jacEq (hP : P.z ≠ 0) (h : @jacEq F (ringOps inv) _ P Q = true) :
    @jacAdd F (ringOps inv) _ P Q = @jacDbl F (ringOps inv) P := by
  obtain ⟨hQ, hx, hy⟩ := (@jacEq_iff F (ringOps inv) _ _ _ hP).mp h
  simp only [sqr] at hx hy
  rw [jacAdd_of_same_x inv hP hQ hx (rr := 0) (by linear_combination 2 * hy), if_pos rfl]

theorem jacAdd_self (hP : P.z ≠ 0) : @jacAdd F (ringOps inv) _ P P = @jacDbl F (ringOps inv) P :=
  jacAdd_of_jacEq inv hP ((@jacEq_iff F (ringOps inv) _ _ _ hP).mpr ⟨hP, rfl, rfl⟩)

/-- Add of a point and its negative, with rr = -4YZ^3 (43_groups.md R243). -/
theorem jacAdd_neg (hP : P.z ≠ 0) {rr : F} (hrr : rr = -(4 * (P.y * (P.z * P.z * P.z)))) :
    @jacAdd F (ringOps inv) _ P (@jacNeg F (ringOps inv) P) =
      if rr = 0 then @jacDbl F (ringOps inv) P else ⟨rr * rr, -(rr * rr * rr), 0⟩ := by
  refine jacAdd_of_same_x inv (Q := @jacNeg F (ringOps inv) P) hP hP rfl ?_
  simp only [hrr, jacNeg]
  ring

/-- Add of representations of a point and of its negative is an identity. In its doubling branch 4Y·Z^3 is 0, and so is 2YZ because 2
and the second Z have inverses (43_groups.md R243). -/
theorem jacAdd_of_jacEq_neg {half v w : F} (hhalf : half * 2 = 1) (hv : v * P.z = 1) (hw : w * Q.z = 1)
    (h : @jacEq F (ringOps inv) _ (@jacNeg F (ringOps inv) P) Q = true) : (@jacAdd F (ringOps inv) _ P Q).z = 0 := by
  nontriviality F
  have hP : P.z ≠ 0 := right_ne_zero_of_mul_eq_one hv
  obtain ⟨hQ, hx, hy⟩ := (@jacEq_iff F (ringOps inv) _ (@jacNeg F (ringOps inv) P) _ hP).mp h
  simp only [jacNeg, sqr] at hx hy
  rw [jacAdd_of_same_x inv hP hQ hx rfl]
  split
  next hrr =>
    have hdouble : 4 * (P.y * (Q.z * Q.z * Q.z)) = 0 := by linear_combination -2 * hy - hrr
    have hcancel : w * Q.z * (w * Q.z) * (w * Q.z) * (half * 2) = 1 := by rw [hw, hhalf]; ring
    simp only [jacDbl, twice]
    linear_combination half * w * w * w * P.z * hdouble - 2 * P.y * P.z * hcancel
  next => rfl

end ring

/-! ### G1 and G2 -/

/-- 2 has an inverse in Fq, because q is odd. -/
theorem fq_half : Fin.ofNat Config.q ((Config.q + 1) / 2) * (2 : Fq) = 1 := by decide +kernel

/-- The same inverse serves in Fq2. -/
theorem fq2_half : (⟨Fin.ofNat Config.q ((Config.q + 1) / 2), 0⟩ : Fq2).mul (Fq2.one.add Fq2.one) = Fq2.one := by decide +kernel

/-- Endo three times is the identity map, because beta^3 = 1 (43_groups.md R241). -/
theorem endo_endo_endo (P : G1) : endo (endo (endo P)) = P := by
  let := fqRing
  have hbeta : beta * beta * beta = 1 := by decide +kernel
  have hx : beta * (beta * (beta * P.x)) = P.x := by linear_combination P.x * hbeta
  simp only [endo, hx]

/-- The rr of G1 with its factor 4. -/
theorem neg_twice_twice (a : Fq) : letI := fqRing; -twice (twice a) = -(4 * a) := by
  let := fqRing
  simp only [twice]
  ring

/-- The rr of G2, which is scaled by 4 in Fq, with the factor 4 of Fq2. -/
theorem neg_scale_four (a : Fq2) : letI := fq2Ring; (a.scale 4).neg = -(4 * a) := by
  let := fq2Ring
  have hscale : a.scale 4 = a + a + (a + a) := by
    let := fqRing
    change a.scale 4 = (a.add a).add (a.add a)
    simp only [Fq2.eq_iff, Fq2.scale, Fq2.add]
    constructor <;> ring
  change -(a.scale 4) = _
  rw [hscale]
  ring

/-- Settles O52: the laws of the formulas over the rings Fq and Fq2. -/
theorem pointFunctionLaws : Obligations.PointFunctionLaws := by
  refine ⟨fun P Q => ?g1, fun P Q => ?g2, @jacDbl_jacIdent Fq fqRing _, @jacDbl_jacIdent Fq2 fq2Ring _⟩
  case g1 =>
    let := fqRing
    exact ⟨@jacAdd_of_left_identity Fq fqOps _ P Q, @jacAdd_of_right_identity Fq fqOps _ P Q, jacAdd_self _, jacAdd_of_jacEq _,
      fun hP hrr => (jacAdd_neg _ hP (neg_twice_twice _)).trans (if_neg hrr),
      fun hP hrr => (jacAdd_neg _ hP (neg_twice_twice _)).trans (if_pos hrr),
      fun v w hv hw => jacAdd_of_jacEq_neg _ fq_half hv hw, jacDbl_identity _, endo_endo_endo P⟩
  case g2 =>
    let := fq2Ring
    exact ⟨@jacAdd_of_left_identity Fq2 fq2Ops _ P Q, @jacAdd_of_right_identity Fq2 fq2Ops _ P Q, jacAdd_self _, jacAdd_of_jacEq _,
      fun hP hrr => (jacAdd_neg _ hP (neg_scale_four _)).trans (if_neg hrr),
      fun hP hrr => (jacAdd_neg _ hP (neg_scale_four _)).trans (if_pos hrr),
      fun v w hv hw => jacAdd_of_jacEq_neg _ fq2_half hv hw, jacDbl_identity _⟩

/-! ### EQ (43_groups.md R256, R266) -/

/-- A ready command that writes no slots passes its range check, and each of its operands is readable. -/
theorem State.Ready.reads_pass {s : State} {i : Instr} {op : BitVec 8} {d a b : SlotNo} {imm : Imm} {r : Form} (h : s.Ready i)
    (he : encode i = encodeWord op d a b imm) (hr : formOf op.toNat = some r) (hd : r.usesD = false) :
    checkSlots i.immField i.operands = .ok () ∧ ∀ o ∈ i.operands, s.kindError i.immField o.1.toNat o.2 = none := by
  rw [State.Ready, State.operandError, Instr.sources_of_not_usesD he hr hd] at h
  split at h
  next hslots => exact ⟨(checkSlots_eq_ok _ _).mpr (List.all_eq_true.mp hslots), (s.readError_eq_none _ _).mp h⟩
  next => cases h

/-- A command whose two reads pass sets EQ to what it makes of the values it read (10_state.md R39). -/
theorem State.setsEq_of_comparison {α β : Type} {s : State} {imm : Imm} {os : List (SlotNo × Kind)} {x : α} {y : β}
    {ra : Result α} {rb : Result β} (hc : checkSlots imm os = .ok ()) (ha : ra = .ok x) (hb : rb = .ok y) (f : α → β → Bool) :
    s.SetsEq (s.finishEq (do checkSlots imm os; let x ← ra; let y ← rb; return f x y)) (f x y) := by
  rw [hc, ha, hb]
  exact s.finishEq_ok _

section eq
variable {s : State} {a b : SlotNo}

theorem execG1Eq_setsEq (h : s.Ready (.g1Eq a b)) :
    s.SetsEq (exec (.g1Eq a b) s) (g1PEq (s.g1At a.toNat) (s.g1At b.toNat)) := by
  obtain ⟨hc, hr⟩ := h.reads_pass rfl rfl rfl
  exact State.setsEq_of_comparison hc (State.readG1_ok (hr (a, .g1) (by simp [Instr.operands])))
    (State.readG1_ok (hr (b, .g1) (by simp [Instr.operands]))) g1PEq

theorem execG2Eq_setsEq (h : s.Ready (.g2Eq a b)) :
    s.SetsEq (exec (.g2Eq a b) s) (g2PEq (s.g2At a.toNat) (s.g2At b.toNat)) := by
  obtain ⟨hc, hr⟩ := h.reads_pass rfl rfl rfl
  exact State.setsEq_of_comparison hc (State.readG2_ok (hr (a, .g2) (by simp [Instr.operands])))
    (State.readG2_ok (hr (b, .g2) (by simp [Instr.operands]))) g2PEq

end eq

/-- Settles O49: EQ is the comparison PEq of the points read, which has one branch for identities and one for all others. -/
theorem pointEqualityIsCrossMultiplication : Obligations.PointEqualityIsCrossMultiplication := by
  refine ⟨fun s a b => ?g1, fun s a b => ?g2, fun P k => ?scaled1, fun P k => ?scaled2⟩
  case g1 =>
    intro P Q h
    have heq := execG1Eq_setsEq h
    refine ⟨fun hz => ?_, fun hP hQ => ?_⟩
    · rwa [show g1PEq P Q = _ from @jacEq_of_identity Fq fqOps _ P Q hz] at heq
    · rwa [show g1PEq P Q = _ from @jacEq_of_not_identity Fq fqOps _ P Q hP hQ] at heq
  case g2 =>
    intro P Q h
    have heq := execG2Eq_setsEq h
    refine ⟨fun hz => ?_, fun hP hQ => ?_⟩
    · rwa [show g2PEq P Q = _ from @jacEq_of_identity Fq2 fq2Ops _ P Q hz] at heq
    · rwa [show g2PEq P Q = _ from @jacEq_of_not_identity Fq2 fq2Ops _ P Q hP hQ] at heq
  case scaled1 =>
    let := fqRing
    exact jacEq_scaled _
  case scaled2 =>
    let := fq2Ring
    exact jacEq_scaled _

end Sys2Proof.Machine

/-! SUPPORT. Scalar multiplication by the bits of the scalars, read from the lowest bit: what SMul and MultiMul of 43_groups.md R240
and R244 make of scalars is one round after what they make of the halved scalars. -/

namespace Sys2Proof.Machine

/-- Halving an integer drops its lowest bit. -/
theorem bitlen_div_two (n : Nat) : bitlen (n / 2) = bitlen n - 1 := by
  unfold bitlen
  rw [Nat.log2_def n]
  split_ifs <;> omega

theorem bitlen_eq_zero (n : Nat) : bitlen n = 0 ↔ n = 0 := by
  unfold bitlen
  split_ifs <;> simp [*]

theorem bitlen_of_pos {n : Nat} (h : 0 < n) : bitlen n = bitlen (n / 2) + 1 := by
  have hne : bitlen n ≠ 0 := (bitlen_eq_zero n).not.mpr h.ne'
  rw [bitlen_div_two]
  omega

section scalars
variable {α : Type}

/-- The same points with the scalars halved. -/
def halveAll (qs : List (α × Nat)) : List (α × Nat) := qs.map fun p => (p.1, p.2 / 2)

/-- The number of bit positions of MultiMul: the bit length of the longest scalar (43_groups.md R244). -/
def maxBits (qs : List (α × Nat)) : Nat := qs.foldl (fun L p => max L (bitlen p.2)) 0

/-- The longest of the halved scalars is one bit shorter. -/
theorem maxBits_halveAll (qs : List (α × Nat)) : maxBits (halveAll qs) = maxBits qs - 1 := by
  have hfrom (L : Nat) : qs.foldl (fun L p => max L (bitlen (p.2 / 2))) (L - 1) =
      qs.foldl (fun L p => max L (bitlen p.2)) L - 1 := by
    induction qs generalizing L with
    | nil => rfl
    | cons p qs ih =>
      rw [List.foldl_cons, List.foldl_cons, ← ih, bitlen_div_two]
      congr 1
      omega
  rw [maxBits, halveAll, List.foldl_map]
  exact hfrom 0

theorem maxBits_eq_zero (qs : List (α × Nat)) : maxBits qs = 0 ↔ ∀ p ∈ qs, p.2 = 0 := by
  have hfrom (L : Nat) : qs.foldl (fun L p => max L (bitlen p.2)) L = 0 ↔ L = 0 ∧ ∀ p ∈ qs, p.2 = 0 := by
    induction qs generalizing L with
    | nil => simp
    | cons p qs ih => rw [List.foldl_cons, ih, Nat.max_eq_zero_iff, bitlen_eq_zero, List.forall_mem_cons, and_assoc]
  exact (hfrom 0).trans (and_iff_right rfl)

end scalars

section ops
variable {F : Type} [FieldOps F] [DecidableEq F]

/-! ### SMul -/

/-- One bit of SMul: a doubling, and an addition of P for a bit that is 1 (43_groups.md R240). -/
def smulRound (P acc : Jac F) (k : Nat) : Jac F := if k % 2 = 1 then jacAdd (jacDbl acc) P else jacDbl acc

/-- The loop over `b + 1` bits of `k` is the loop over `b` bits of `k / 2` and a round for the lowest bit. -/
theorem smulLoop_succ (P : Jac F) (k : Nat) (acc : Jac F) (b : Nat) :
    smulLoop P k acc (b + 1) = smulRound P (smulLoop P (k / 2) acc b) k := by
  induction b generalizing acc with
  | zero => simp only [smulLoop, smulRound, Nat.testBit_zero, decide_eq_true_eq]
  | succ b ih =>
    rw [smulLoop, ih, smulLoop, Nat.testBit_succ]

theorem jacSmul_zero (P : Jac F) : jacSmul P 0 = jacIdent := rfl

theorem jacSmul_of_pos (P : Jac F) {k : Nat} (hk : 0 < k) : jacSmul P k = smulRound P (jacSmul P (k / 2)) k := by
  rw [jacSmul, bitlen_of_pos hk, smulLoop_succ, jacSmul]

theorem jacSmul_even (P : Jac F) {k : Nat} (hk : 0 < k) : jacSmul P (2 * k) = jacDbl (jacSmul P k) := by
  rw [jacSmul_of_pos P (by omega), smulRound, if_neg (by omega), Nat.mul_div_cancel_left k (by decide)]

theorem jacSmul_odd (P : Jac F) (k : Nat) : jacSmul P (2 * k + 1) = jacAdd (jacDbl (jacSmul P k)) P := by
  rw [jacSmul_of_pos P (by omega), smulRound, if_pos (by omega), show (2 * k + 1) / 2 = k by omega]

/-! ### MultiMul -/

/-- The additions of one bit position, as a fold. -/
theorem multiAdd_eq_foldl (b : Nat) (acc : Jac F) (qs : List (Jac F × Nat)) :
    multiAdd b acc qs = qs.foldl (fun acc p => if p.2.testBit b then jacAdd acc p.1 else acc) acc := by
  induction qs generalizing acc with
  | nil => rfl
  | cons p qs ih => exact ih _

theorem multiAdd_succ (b : Nat) (acc : Jac F) (qs : List (Jac F × Nat)) :
    multiAdd (b + 1) acc qs = multiAdd b acc (halveAll qs) := by
  simp only [multiAdd_eq_foldl, halveAll, List.foldl_map, Nat.testBit_succ]

/-- The loop over `b + 1` bit positions is the loop over `b` positions of the halved scalars and a round for the lowest position. -/
theorem multiLoop_succ (qs : List (Jac F × Nat)) (acc : Jac F) (b : Nat) :
    multiLoop qs acc (b + 1) = multiAdd 0 (jacDbl (multiLoop (halveAll qs) acc b)) qs := by
  induction b generalizing acc with
  | zero => rfl
  | succ b ih => rw [multiLoop, ih, multiLoop, multiAdd_succ]

/-- MultiMul of coefficients that are not negative. -/
def multiMulNat (qs : List (Jac F × Nat)) : Jac F := multiMul (qs.map fun p => (p.1, (p.2 : Int)))

theorem multiMulNat_eq (qs : List (Jac F × Nat)) : multiMulNat qs = multiLoop qs jacIdent (maxBits qs) := by
  have hqs : (qs.map fun p => (p.1, (p.2 : Int))).map (fun p => (if 0 ≤ p.2 then p.1 else jacNeg p.1, p.2.natAbs)) = qs := by
    simp [List.map_map, Function.comp_def]
  simp only [multiMulNat, multiMul, hqs, maxBits]

/-- A negative coefficient is that of the negative of its point (43_groups.md R244). -/
theorem multiMul_eq_multiMulNat (pk : List (Jac F × Int)) :
    multiMul pk = multiMulNat (pk.map fun p => (if 0 ≤ p.2 then p.1 else jacNeg p.1, p.2.natAbs)) := by
  rw [multiMulNat_eq, multiMul, maxBits]

theorem multiMulNat_of_all_zero {qs : List (Jac F × Nat)} (h : ∀ p ∈ qs, p.2 = 0) : multiMulNat qs = jacIdent := by
  rw [multiMulNat_eq, (maxBits_eq_zero qs).mpr h, multiLoop]

/-- The additions of the points with an odd scalar, in increasing index (43_groups.md R244). -/
def addOdd (qs : List (Jac F × Nat)) (acc : Jac F) : Jac F :=
  qs.foldl (fun acc p => if p.2 % 2 = 1 then jacAdd acc p.1 else acc) acc

theorem multiAdd_zero (acc : Jac F) (qs : List (Jac F × Nat)) : multiAdd 0 acc qs = addOdd qs acc := by
  simp only [multiAdd_eq_foldl, addOdd, Nat.testBit_zero, decide_eq_true_eq]

/-- With no odd scalar there is nothing to add. -/
theorem addOdd_of_all_zero {qs : List (Jac F × Nat)} (h : ∀ p ∈ qs, p.2 = 0) (acc : Jac F) : addOdd qs acc = acc := by
  induction qs with
  | nil => rfl
  | cons p qs ih =>
    obtain ⟨hp, hqs⟩ := List.forall_mem_cons.mp h
    rw [addOdd, List.foldl_cons, hp, if_neg (by decide)]
    exact ih hqs

end ops

section ring
variable {F : Type} [CommRing F] [DecidableEq F] (inv : F → F)

/-- One doubling and one addition from (1, 1, 0) (43_groups.md R240, R242). -/
theorem jacSmul_one (P : Jac F) : @jacSmul F (ringOps inv) _ P 1 = P := by
  let := ringOps inv
  calc jacSmul P 1 = jacAdd (jacDbl jacIdent) P := jacSmul_odd P 0
    _ = jacAdd jacIdent P := by rw [jacDbl_jacIdent inv]
    _ = P := jacAdd_of_left_identity rfl

/-- One round of MultiMul; where all scalars are 0 there is none, and a doubling of (1, 1, 0) changes nothing (43_groups.md R244). -/
theorem multiMulNat_eq_round (qs : List (Jac F × Nat)) :
    letI := ringOps inv
    multiMulNat qs = addOdd qs (jacDbl (multiMulNat (halveAll qs))) := by
  let := ringOps inv
  by_cases hzero : ∀ p ∈ qs, p.2 = 0
  · have hhalved : ∀ p ∈ halveAll qs, p.2 = 0 := by
      rw [← maxBits_eq_zero, maxBits_halveAll, (maxBits_eq_zero qs).mpr hzero]
    rw [multiMulNat_of_all_zero hzero, multiMulNat_of_all_zero hhalved, addOdd_of_all_zero hzero]
    exact (jacDbl_jacIdent inv).symm
  · obtain ⟨b, hb⟩ := Nat.exists_eq_succ_of_ne_zero ((maxBits_eq_zero qs).not.mpr hzero)
    rw [multiMulNat_eq, multiMulNat_eq, maxBits_halveAll, hb, multiLoop_succ, multiAdd_zero]
    rfl

end ring

/-- Settles O53: a round for the lowest bit follows what is made of the halved scalars. -/
theorem scalarMultiplicationDoublesAndAdds : Obligations.ScalarMultiplicationDoublesAndAdds := by
  refine ⟨fun P => ?smul1, fun P => ?smul2, fun pk pn => ?multi1, fun pk pn => ?multi2⟩
  case smul1 =>
    let := fqRing
    exact ⟨@jacSmul_zero Fq fqOps _ P, jacSmul_one _ P, fun k hk =>
      ⟨@jacSmul_even Fq fqOps _ P k hk, @jacSmul_odd Fq fqOps _ P k⟩⟩
  case smul2 =>
    let := fq2Ring
    exact ⟨@jacSmul_zero Fq2 fq2Ops _ P, jacSmul_one _ P, fun k hk =>
      ⟨@jacSmul_even Fq2 fq2Ops _ P k hk, @jacSmul_odd Fq2 fq2Ops _ P k⟩⟩
  case multi1 =>
    exact ⟨@multiMul_eq_multiMulNat Fq fqOps _ pk, @multiMulNat_of_all_zero Fq fqOps _ pn, @multiMulNat_eq_round Fq fqRing _ _ pn⟩
  case multi2 =>
    exact ⟨@multiMul_eq_multiMulNat Fq2 fq2Ops _ pk, @multiMulNat_of_all_zero Fq2 fq2Ops _ pn,
      @multiMulNat_eq_round Fq2 fq2Ring _ _ pn⟩

end Sys2Proof.Machine

/-! SUPPORT. The lattice decomposition (44_lattice.md R290 to R294). The adjugate row w has w·B = (r, 0, …, 0), so r times the row
(n, 0, …, 0) - v·B is e·B with e = n·w - r·v the errors of the roundings; these are at most r/2, which bounds the coefficients. -/

namespace Sys2Proof.Machine

/-! ### Errors of roundings -/

/-- What the rounding of n·w/r leaves of n·w (44_lattice.md R291). -/
def babaiError (n : Nat) (w : Int) : Int := n * w - babaiRound n w * Config.r

/-- Rounding to the nearest integer leaves less than half of r, which is odd. -/
theorem two_mul_natAbs_babaiError_lt (n : Nat) (w : Int) : 2 * (babaiError n w).natAbs < Config.r := by
  simp only [babaiError, babaiRound, Config.r]
  generalize (n : Int) * w = m
  split <;> omega

/-- Σ a·e over the pairs (a, w) of a list, e the error of rounding n·w/r: an entry of e·B, for a column of B. -/
def errorSum (n : Nat) (ts : List (Int × Int)) : Int := (ts.map fun t => t.1 * babaiError n t.2).sum

theorem errorSum_nil (n : Nat) : errorSum n [] = 0 := rfl

theorem errorSum_cons (n : Nat) (a w : Int) (ts : List (Int × Int)) :
    errorSum n ((a, w) :: ts) = a * (n * w - babaiRound n w * Config.r) + errorSum n ts := rfl

/-- Σ |a| over the pairs (a, w) of a list. -/
def factorSum (ts : List (Int × Int)) : Nat := (ts.map fun t => t.1.natAbs).sum

theorem two_mul_natAbs_errorSum_le (n : Nat) (ts : List (Int × Int)) :
    2 * (errorSum n ts).natAbs ≤ factorSum ts * Config.r := by
  induction ts with
  | nil => exact Nat.zero_le _
  | cons t ts ih =>
    have hsplit : (errorSum n (t :: ts)).natAbs ≤ t.1.natAbs * (babaiError n t.2).natAbs + (errorSum n ts).natAbs := by
      rw [← Int.natAbs_mul]
      exact Int.natAbs_add_le _ _
    have hterm : t.1.natAbs * (2 * (babaiError n t.2).natAbs) ≤ t.1.natAbs * Config.r :=
      Nat.mul_le_mul_left _ (two_mul_natAbs_babaiError_lt n t.2).le
    calc 2 * (errorSum n (t :: ts)).natAbs
        ≤ t.1.natAbs * (2 * (babaiError n t.2).natAbs) + 2 * (errorSum n ts).natAbs := by linarith
      _ ≤ t.1.natAbs * Config.r + factorSum ts * Config.r := Nat.add_le_add hterm ih
      _ = factorSum (t :: ts) * Config.r := (Nat.add_mul _ _ _).symm

/-- A coefficient that is an error sum divided by r is at most half of the sum of the factors. -/
theorem natAbs_le_of_mul_r_eq {n : Nat} {ts : List (Int × Int)} {c : Int} {bound : Nat} (hc : c * Config.r = errorSum n ts)
    (hts : factorSum ts ≤ 2 * bound + 1) : c.natAbs ≤ bound := by
  have hsum := two_mul_natAbs_errorSum_le n ts
  rw [← hc, Int.natAbs_mul, Int.natAbs_natCast, ← Nat.mul_assoc] at hsum
  have hhalf : 2 * c.natAbs ≤ factorSum ts := Nat.le_of_mul_le_mul_right hsum (by decide)
  omega

/-! ### The coefficients -/

/-- The group order is the value of r(u) (00_scope.md R10, R11). -/
theorem groupOrder_eq : (Config.r : Int) = Config.u ^ 4 - Config.u ^ 2 + 1 := by decide

theorem decompose1_eq (n : Nat) :
    let v0 := babaiRound n (Config.u ^ 2)
    let v1 := babaiRound n 1
    decompose1 n = [n - (v0 * (Config.u ^ 2 - 1) + v1), v0 - v1 * Config.u ^ 2] := by
  simp only [decompose1, decompose, lat1, unitRow, vecMat, List.map_cons, List.map_nil, List.length_cons, List.length_nil,
    List.replicate, List.zipWith, List.cons.injEq, and_true]
  refine ⟨?_, ?_⟩ <;> ring

theorem decompose2_eq (n : Nat) :
    let v0 := babaiRound n (Config.u * (Config.u ^ 2 - 1))
    let v1 := babaiRound n (Config.u ^ 2 - 1)
    let v2 := babaiRound n Config.u
    let v3 := babaiRound n 1
    decompose2 n = [n - (v0 * Config.u + v3), v0 - v1 * Config.u, v1 - v2 * Config.u + v3, v2 - v3 * Config.u] := by
  simp only [decompose2, decompose, lat2, unitRow, vecMat, List.map_cons, List.map_nil, List.length_cons, List.length_nil,
    List.replicate, List.zipWith, List.cons.injEq, and_true]
  refine ⟨?_, ?_, ?_, ?_⟩ <;> ring

/-- Decompose1 reconstructs n modulo r and meets the bound (44_lattice.md R292). -/
theorem decompose1_reconstructs (n : Nat) :
    ∃ c0 c1 : Int, decompose1 n = [c0, c1] ∧ (c0 + c1 * (Config.u ^ 2 - 1) - n) % (Config.r : Int) = 0 ∧
      c0.natAbs ≤ 114494405076324789032426788480197066752 ∧ c1.natAbs ≤ 114494405076324789032426788480197066752 := by
  refine ⟨_, _, decompose1_eq n, Int.emod_eq_zero_of_dvd ⟨-babaiRound n 1, ?sum⟩,
    natAbs_le_of_mul_r_eq (n := n) (ts := [(Config.u ^ 2 - 1, Config.u ^ 2), (1, 1)]) ?c0 (by decide),
    natAbs_le_of_mul_r_eq (n := n) (ts := [(-1, Config.u ^ 2), (Config.u ^ 2, 1)]) ?c1 (by decide)⟩
  case sum => linear_combination (babaiRound n 1) * groupOrder_eq
  case c0 =>
    rw [errorSum_cons, errorSum_cons, errorSum_nil]
    linear_combination n * groupOrder_eq
  case c1 =>
    rw [errorSum_cons, errorSum_cons, errorSum_nil]
    ring

/-- Decompose2 reconstructs n modulo r and meets the bounds (44_lattice.md R292). -/
theorem decompose2_reconstructs (n : Nat) :
    ∃ c0 c1 c2 c3 : Int, decompose2 n = [c0, c1, c2, c3] ∧
      (c0 + c1 * Config.u + c2 * Config.u ^ 2 + c3 * Config.u ^ 3 - n) % (Config.r : Int) = 0 ∧
      c0.natAbs ≤ 7566188111470821376 ∧ c1.natAbs ≤ 7566188111470821376 ∧ c2.natAbs ≤ 7566188111470821377 ∧
      c3.natAbs ≤ 7566188111470821376 := by
  refine ⟨_, _, _, _, decompose2_eq n, Int.emod_eq_zero_of_dvd ⟨-babaiRound n 1, ?sum⟩,
    natAbs_le_of_mul_r_eq (n := n) (ts := [(Config.u, Config.u * (Config.u ^ 2 - 1)), (1, 1)]) ?c0 (by decide),
    natAbs_le_of_mul_r_eq (n := n) (ts := [(-1, Config.u * (Config.u ^ 2 - 1)), (Config.u, Config.u ^ 2 - 1)]) ?c1 (by decide),
    natAbs_le_of_mul_r_eq (n := n) (ts := [(-1, Config.u ^ 2 - 1), (Config.u, Config.u), (-1, 1)]) ?c2 (by decide),
    natAbs_le_of_mul_r_eq (n := n) (ts := [(-1, Config.u), (Config.u, 1)]) ?c3 (by decide)⟩
  case sum => linear_combination (babaiRound n 1) * groupOrder_eq
  case c0 =>
    rw [errorSum_cons, errorSum_cons, errorSum_nil]
    linear_combination n * groupOrder_eq
  case c1 | c3 =>
    rw [errorSum_cons, errorSum_cons, errorSum_nil]
    ring
  case c2 =>
    rw [errorSum_cons, errorSum_cons, errorSum_cons, errorSum_nil]
    ring

/-- An integer of magnitude below 2^383 is shown by its word (10_state.md R28). -/
theorem toInt_ofInt_of_natAbs_lt {c : Int} (h : c.natAbs < 2 ^ 383) : (BitVec.ofInt 384 c).toInt = c :=
  BitVec.toInt_ofInt_eq_self (by decide) (by omega) (by omega)

/-- Settles O54: each coefficient is an error sum divided by r, and the reconstruction misses n by the last rounded quotient
times r. -/
theorem decompositionReconstructsWithinBounds : Obligations.DecompositionReconstructsWithinBounds := by
  intro n _
  refine ⟨decompose1_reconstructs n, decompose2_reconstructs n, fun c hc => toInt_ofInt_of_natAbs_lt ?_⟩
  obtain ⟨b0, b1, hb, -, hb0, hb1⟩ := decompose1_reconstructs n
  obtain ⟨c0, c1, c2, c3, hc', -, hc0, hc1, hc2, hc3⟩ := decompose2_reconstructs n
  rw [hb, hc'] at hc
  simp only [List.cons_append, List.nil_append, List.mem_cons, List.not_mem_nil, or_false] at hc
  obtain rfl | rfl | rfl | rfl | rfl | rfl := hc <;> omega

/-! ### The commands -/

section commands
variable {s : State} {d a : SlotNo} {imm : Imm} {os : List (SlotNo × Kind)} {n : Nat} {ws : List SlotWord}

/-- A command that checks its scalar raises SCALAR_RANGE for one not below r (44_lattice.md R293, R294). -/
theorem State.fails_of_scalar (hc : checkSlots imm os = .ok ()) (hn : Config.r ≤ n) :
    s.Fails (s.finishSlots d (do
      checkSlots imm os
      if Config.r ≤ n then throw .scalarRange
      return ws)) .scalarRange := by
  rw [hc, result_ok_bind, if_pos hn]
  exact s.finishSlots_error d .scalarRange

theorem checkSlots_latDecomp {k : Kind} (hd : d.toNat + k.size imm ≤ 256) : checkSlots imm [(d, k), (a, .u)] = .ok () :=
  checkSlots_ok_of_le (List.forall_mem_cons.mpr ⟨hd, List.forall_mem_singleton.mpr a.isLt⟩)

theorem execLatDecomp1_writes (hd : d.toNat + 2 ≤ 256) (hn : (s.slot a.toNat).toNat < Config.r) :
    s.Writes (exec (.latDecomp1 d a) s) d (sWords (decompose1 (s.slot a.toNat).toNat)) :=
  s.writes_of_ok (checked_read_scalar_ok (ra := .ok ()) (checkSlots_latDecomp hd) rfl hn fun _ => _) hd

theorem execLatDecomp2_writes (hd : d.toNat + 4 ≤ 256) (hn : (s.slot a.toNat).toNat < Config.r) :
    s.Writes (exec (.latDecomp2 d a) s) d (sWords (decompose2 (s.slot a.toNat).toNat)) :=
  s.writes_of_ok (checked_read_scalar_ok (ra := .ok ()) (checkSlots_latDecomp hd) rfl hn fun _ => _) hd

end commands

/-- The scalar r - 1 is decomposed as -1 in both lattices (44_lattice.md R293, R294). -/
theorem decompose1_r_sub_one : decompose1 (Config.r - 1) = [-1, 0] := by decide

theorem decompose2_r_sub_one : decompose2 (Config.r - 1) = [-1, 0, 0, 0] := by decide

/-- The two's complement of -1 has all bits one (10_state.md R28). -/
theorem ofInt_neg_one (w : Nat) : BitVec.ofInt w (-1) = BitVec.allOnes w := by
  rw [BitVec.ofInt_neg]
  exact BitVec.neg_one_eq_allOnes

theorem sWords_decompose1_r_sub_one : sWords (decompose1 (Config.r - 1)) = [BitVec.allOnes 384, 0] := by
  rw [decompose1_r_sub_one]
  simp [sWords, ofInt_neg_one]

theorem sWords_decompose2_r_sub_one : sWords (decompose2 (Config.r - 1)) = [BitVec.allOnes 384, 0, 0, 0] := by
  rw [decompose2_r_sub_one]
  simp [sWords, ofInt_neg_one]

/-- Settles O55: both commands check the range of D, then the scalar, and write the words of the coefficients. -/
theorem latticeCommandsWriteTheCoefficients : Obligations.LatticeCommandsWriteTheCoefficients := by
  intro s d a n
  refine ⟨⟨rfl, rfl⟩, fun hd => ⟨fun hn => ?coeffs1, s.fails_of_scalar (checkSlots_latDecomp hd)⟩,
    fun hd => ⟨fun hn => ?coeffs2, s.fails_of_scalar (checkSlots_latDecomp hd)⟩, fun hd hn => ?last1, fun hd hn => ?last2,
    exec_fails_slotRange (o := (d, .s2)) rfl (by simp [Instr.operands]),
    exec_fails_slotRange (o := (d, .s4)) rfl (by simp [Instr.operands])⟩
  case coeffs1 =>
    obtain ⟨c0, c1, hcs⟩ := decompose1_two n
    have hw := execLatDecomp1_writes hd hn
    rw [hcs] at hw
    exact ⟨c0, c1, hcs, hw⟩
  case coeffs2 =>
    obtain ⟨c0, c1, c2, c3, hcs⟩ := decompose2_four n
    have hw := execLatDecomp2_writes hd hn
    rw [hcs] at hw
    exact ⟨c0, c1, c2, c3, hcs, hw⟩
  case last1 =>
    have hw := execLatDecomp1_writes (s := s) (a := a) hd (hn.trans_lt (by decide))
    rwa [show (s.slot a.toNat).toNat = Config.r - 1 from hn, sWords_decompose1_r_sub_one] at hw
  case last2 =>
    have hw := execLatDecomp2_writes (s := s) (a := a) hd (hn.trans_lt (by decide))
    rwa [show (s.slot a.toNat).toNat = Config.r - 1 from hn, sWords_decompose2_r_sub_one] at hw

end Sys2Proof.Machine

/-! SUPPORT. The line steps and the Miller loop (45_pairing.md R300 to R302, R305) over the ring Fq2, and the pairing commands
(R303, R304, R306, R308, R309). -/

namespace Sys2Proof.Machine

/-! ### The formulas of the line steps in the ring Fq2 (45_pairing.md R300 to R302) -/

section scale
variable (a : Fq2)

theorem Fq2.scale_add (j k : Fq) : a.scale (j + k) = (a.scale j).add (a.scale k) := by
  let := fqRing
  simp only [Fq2.scale, Fq2.add, Fq2.mk.injEq]
  constructor <;> ring

theorem Fq2.scale_two : letI := fq2Ring; a.scale 2 = 2 * a := by
  have hsum : a.scale 2 = a.add a := by
    let := fqRing
    simp only [Fq2.scale, Fq2.add, mul_two]
  let := fq2Ring
  exact hsum.trans (two_mul a).symm

theorem Fq2.scale_four : letI := fq2Ring; a.scale 4 = 4 * a := by
  let := fq2Ring
  rw [show (4 : Fq) = 2 + 2 from rfl, Fq2.scale_add, Fq2.scale_two]
  change 2 * a + 2 * a = 4 * a
  ring

theorem Fq2.scale_six : letI := fq2Ring; a.scale 6 = 6 * a := by
  let := fq2Ring
  rw [show (6 : Fq) = 4 + 2 from rfl, Fq2.scale_add, Fq2.scale_four, Fq2.scale_two]
  change 4 * a + 2 * a = 6 * a
  ring

theorem Fq2.scale_eight : letI := fq2Ring; a.scale 8 = 8 * a := by
  let := fq2Ring
  rw [show (8 : Fq) = 4 + 4 from rfl, Fq2.scale_add, Fq2.scale_four]
  change 4 * a + 4 * a = 8 * a
  ring

end scale

section lines
variable (R : G2) (xQ yQ : Fq2) (xP yP : Fq)

/-- The tangent line with the ring operations of Fq2. -/
theorem tangentLine_eq : letI := fq2Ring
    tangentLine R xP yP = ⟨6 * (R.x * R.x * R.x) - 4 * (R.y * R.y), (-(6 * (R.x * R.x * (R.z * R.z)))).scale xP,
      (4 * (R.y * R.z * (R.z * R.z))).scale yP⟩ := by
  simp only [tangentLine, Fq2.scale_four, Fq2.scale_six]
  rfl

theorem chordRun_eq : letI := fq2Ring; chordRun R xQ = xQ * (R.z * R.z) - R.x := rfl

theorem chordRise_eq : letI := fq2Ring; chordRise R yQ = 2 * (yQ * (R.z * R.z * R.z) - R.y) := by
  rw [chordRise, Fq2.scale_two]
  rfl

variable {H S X : Fq2}

/-- The chord's point with the ring operations of Fq2, for H and S the two differences. -/
theorem chordPoint_eq (hH : chordRun R xQ = H) (hS : chordRise R yQ = S) :
    letI := fq2Ring
    X = S * S - 4 * (H * H * H) - 8 * (R.x * (H * H)) →
    chordPoint R xQ yQ = ⟨X, S * (4 * (R.x * (H * H)) - X) - 8 * (R.y * (H * H * H)), 2 * (R.z * H)⟩ := by
  rintro rfl
  simp only [chordPoint, hH, hS, Fq2.scale_two, Fq2.scale_four, Fq2.scale_eight]
  rfl

/-- The chord's line with the ring operations of Fq2. -/
theorem chordLine_eq (hH : chordRun R xQ = H) (hS : chordRise R yQ = S) :
    letI := fq2Ring
    chordLine R xQ yQ xP yP =
      ⟨2 * (S * xQ) - 4 * (yQ * (R.z * H)), (-(2 * S)).scale xP, (4 * (R.z * H)).scale yP⟩ := by
  simp only [chordLine, hH, hS, Fq2.scale_two, Fq2.scale_four]
  rfl

theorem tOf_eq : letI := fq2Ring; tOf R = R.z * R.z := rfl

/-- LineDbl is Dbl with the tangent line (45_pairing.md R300). -/
theorem lineDbl_eq : lineDbl R (tOf R) xP yP = (g2Dbl R, tangentLine R xP yP) := by
  let := fq2Ring
  rw [tangentLine_eq]
  simp only [lineDbl, g2Dbl, jacDbl, tOf_eq, sqr, twice, thrice, Prod.mk.injEq, Jac.mk.injEq, Line.mk.injEq]
  refine ⟨⟨?x, ?y, ?z⟩, ?l0, congrArg (Fq2.scale · xP) ?l1, congrArg (Fq2.scale · yP) ?l4⟩ <;> ring

/-- LineAdd is the chord's point with the chord's line (45_pairing.md R301). -/
theorem lineAdd_eq : lineAdd R (tOf R) xQ yQ xP yP = (chordPoint R xQ yQ, chordLine R xQ yQ xP yP) := by
  let := fq2Ring
  rw [chordPoint_eq R xQ yQ (chordRun_eq R xQ) (chordRise_eq R yQ) rfl,
    chordLine_eq R xQ yQ xP yP (chordRun_eq R xQ) (chordRise_eq R yQ)]
  simp only [lineAdd, tOf_eq, sqr, twice, Prod.mk.injEq, Jac.mk.injEq, Line.mk.injEq]
  refine ⟨⟨?x, ?y, ?z⟩, ?l0, congrArg (Fq2.scale · xP) ?l1, congrArg (Fq2.scale · yP) ?l4⟩ <;> ring

end lines

section ring
variable {F : Type} [CommRing F] [DecidableEq F] (inv : F → F) {P : Jac F} {x y H S X : F}

/-- Add of a point and an affine one, for the differences H and S, outside of its equal-point branch (43_groups.md R240). -/
theorem jacAdd_affine (hP : P.z ≠ 0) (hone : (1 : F) ≠ 0) (hH : H = x * (P.z * P.z) - P.x)
    (hS : S = 2 * (y * (P.z * P.z * P.z) - P.y)) (hX : X = S * S - 4 * (H * H * H) - 8 * (P.x * (H * H)))
    (hne : ¬ (H = 0 ∧ S = 0)) :
    @jacAdd F (ringOps inv) _ P ⟨x, y, 1⟩ = ⟨X, S * (4 * (P.x * (H * H)) - X) - 8 * (P.y * (H * H * H)), 2 * (P.z * H)⟩ := by
  have hrun : x * (P.z * P.z) - P.x * (1 * 1) = H := by rw [hH]; ring
  have hrise : twice (y * P.z * (P.z * P.z) - P.y * 1 * (1 * 1)) = S := by rw [hS, twice]; ring
  simp only [jacAdd, sqr, if_neg hP, if_neg hone, hrun, hrise, if_neg hne]
  simp only [twice, hX, Jac.mk.injEq]
  refine ⟨?_, ?_, ?_⟩ <;> ring

/-- Where both differences are 0 the points are equal, because 2 has an inverse. -/
theorem jacEq_affine_of_differences {half : F} (hhalf : half * 2 = 1) (hP : P.z ≠ 0) (hone : (1 : F) ≠ 0)
    (hH : x * (P.z * P.z) - P.x = 0) (hS : 2 * (y * (P.z * P.z * P.z) - P.y) = 0) :
    @jacEq F (ringOps inv) _ P ⟨x, y, 1⟩ = true := by
  refine (@jacEq_iff F (ringOps inv) _ _ _ hP).mpr ⟨hone, ?_, ?_⟩ <;> simp only [sqr]
  · linear_combination -hH
  · linear_combination (y * (P.z * P.z * P.z) - P.y) * hhalf - half * hS

end ring

/-- Where R is neither an identity nor the point Q, the chord's point is Add(R, (xQ, yQ, 1)). -/
theorem chordPoint_eq_g2Add {R : G2} {xQ yQ : Fq2} (hR : R.z ≠ Fq2.zero) (hne : g2PEq R ⟨xQ, yQ, Fq2.one⟩ = false) :
    chordPoint R xQ yQ = g2Add R ⟨xQ, yQ, Fq2.one⟩ := by
  let := fq2Ring
  have hone : (1 : Fq2) ≠ 0 := by decide +kernel
  have hdiff : ¬ (chordRun R xQ = 0 ∧ chordRise R yQ = 0) := by
    rintro ⟨hH, hS⟩
    rw [chordRise_eq] at hS
    exact Bool.false_ne_true (hne.symm.trans (jacEq_affine_of_differences Fq2.inverse fq2_half hR hone hH hS))
  rw [chordPoint_eq R xQ yQ rfl rfl rfl]
  exact (jacAdd_affine Fq2.inverse hR hone (chordRun_eq R xQ) (chordRise_eq R yQ) rfl hdiff).symm

/-! ### The Miller loop (45_pairing.md R305) -/

/-- The bits of |u| below its top bit (00_scope.md R11). -/
theorem uAbs_testBit : ∀ b < 63, Config.uAbs.testBit b = decide (b = 62 ∨ b = 60 ∨ b = 57 ∨ b = 48 ∨ b = 16) := by decide

section miller
variable (xP yP : Fq) (xQ yQ : Fq2)

/-- One iteration of the Miller loop at bit `b`, with a squaring in every one: a doubling step with the tangent line, and where the
bit is set an addition step with the chord's line (45_pairing.md R305). -/
def millerIteration (p : G2 × Fq12) (b : Nat) : G2 × Fq12 :=
  let R := g2Dbl p.1
  let f := (p.2.mul p.2).mul (tangentLine p.1 xP yP).value
  if b = 62 ∨ b = 60 ∨ b = 57 ∨ b = 48 ∨ b = 16 then (chordPoint R xQ yQ, f.mul (chordLine R xQ yQ xP yP).value) else (R, f)

theorem millerDbl_eq (R : G2) (f : Fq12) : millerDbl xP yP R f = (g2Dbl R, f.mul (tangentLine R xP yP).value) := by
  rw [millerDbl, lineDbl_eq]

theorem millerAdd_eq (R : G2) (f : Fq12) :
    millerAdd xP yP xQ yQ R f = (chordPoint R xQ yQ, f.mul (chordLine R xQ yQ xP yP).value) := by
  rw [millerAdd, lineAdd_eq]

/-- The model leaves out the squaring at bit 62, where f is 1: there it changes nothing. -/
theorem millerLoop_succ {b : Nat} (hb : b < 63) (R : G2) {f : Fq12} (hf : b = 62 → f = Fq12.one) :
    millerLoop xP yP xQ yQ R f (b + 1) = millerLoop xP yP xQ yQ (millerIteration xP yP xQ yQ (R, f) b).1
      (millerIteration xP yP xQ yQ (R, f) b).2 b := by
  have hsquare : (if b = 62 then f else f.square) = f.mul f := by
    split
    next h => rw [hf h, Fq12.one_mul]
    next => rfl
  simp only [millerLoop, millerIteration, millerDbl_eq, millerAdd_eq, hsquare, uAbs_testBit b hb, decide_eq_true_eq]

/-- The model's loop over the lowest `b` bits is the fold of the iterations over them, from f = 1 if it starts at bit 62. -/
theorem millerLoop_eq_foldl {b : Nat} (hb : b ≤ 63) (R : G2) {f : Fq12} (hf : b = 63 → f = Fq12.one) :
    millerLoop xP yP xQ yQ R f b = ((List.range b).reverse.foldl (millerIteration xP yP xQ yQ) (R, f)).2 := by
  induction b generalizing R f with
  | zero => rfl
  | succ b ih =>
    rw [millerLoop_succ xP yP xQ yQ (by omega) R (fun h => hf (by omega)), ih (by omega) _ (by omega), List.range_succ,
      List.reverse_append, List.reverse_singleton, List.singleton_append, List.foldl_cons]

end miller

/-- Settles O57: the model's loop is the fold of the iterations, whose line steps are the tangent's and the chord's. -/
theorem millerIsTheLoopOverTheBits : Obligations.MillerIsTheLoopOverTheBits := fun xP yP xQ yQ =>
  congrArg Fq12.conj (millerLoop_eq_foldl xP yP xQ yQ (Nat.le_refl 63) _ fun _ => rfl)

/-! ### The commands (45_pairing.md R303, R304, R306, R308, R309) -/

section commands
variable {s : State} {d a b : SlotNo}

theorem execLinedbl_writes (h : s.Ready (.linedbl d a b)) :
    s.Writes (exec (.linedbl d a b) s) d
      (ldWords (g2Dbl (s.g2At a.toNat), tangentLine (s.g2At a.toNat) (s.fqAt b.toNat) (s.fqAt (b.toNat + 1)))) := by
  obtain ⟨hc, hr⟩ := h.checks_pass rfl rfl rfl
  have hR := State.readG2_ok (hr (a, .g2) (by simp [Instr.operands]))
  have hP := State.readAff1_ok (hr (b, .af1) (by simp [Instr.operands]))
  rw [← lineDbl_eq]
  exact s.writes_of_ok (checked_read_read_ok hc hR hP _) (fits_of_checkSlots hc (Nat.succ_pos _))

/-- The six slots of a readable operand of LINEADD read as the two Fq2 and the two Fq values they show (30_encoding.md R99). -/
theorem State.readLa_bind {imm : Imm} {n : Nat} (h : s.kindError imm n .la = none) {β : Type}
    (f : Fq2 → Fq2 → Fq → Fq → Result β) :
    (do
      let xQ ← s.readFq2 n
      let yQ ← s.readFq2 (n + 2)
      let xP ← s.readFq (n + 4)
      let yP ← s.readFq (n + 5)
      f xQ yQ xP yP) =
      f (s.fq2At n) (s.fq2At (n + 2)) (s.fqAt (n + 4)) (s.fqAt (n + 5)) := by
  have hcanon (k : Nat) (hk : k < 6) : s.canonFq (n + k) := (s.allFq_iff n 6).mp (State.allFq_of_readable h (by simp)) k hk
  have hread2 (k : Nat) (hk : k + 1 < 6) : s.readFq2 (n + k) = .ok (s.fq2At (n + k)) := by
    rw [State.readFq2, s.readFq_ok (hcanon k (by omega)), Nat.add_assoc, s.readFq_ok (hcanon (k + 1) hk)]
    rfl
  rw [show s.readFq2 n = _ from hread2 0 (by omega), hread2 2 (by omega), s.readFq_ok (hcanon 4 (by omega)),
    s.readFq_ok (hcanon 5 (by omega))]
  rfl

theorem execLineadd_writes (h : s.Ready (.lineadd d a b)) :
    let R := s.g2At a.toNat
    let xQ := s.fq2At b.toNat
    let yQ := s.fq2At (b.toNat + 2)
    s.Writes (exec (.lineadd d a b) s) d
      (ldWords (chordPoint R xQ yQ, chordLine R xQ yQ (s.fqAt (b.toNat + 4)) (s.fqAt (b.toNat + 5)))) := by
  obtain ⟨hc, hr⟩ := h.checks_pass rfl rfl rfl
  have hR := State.readG2_ok (hr (a, .g2) (by simp [Instr.operands]))
  have hla := hr (b, .la) (by simp [Instr.operands])
  intro R xQ yQ
  rw [← lineAdd_eq]
  exact s.writes_of_ok ((checked_read_bind hc hR _).trans (State.readLa_bind hla _)) (fits_of_checkSlots hc (Nat.succ_pos _))

theorem execMiller_writes (h : s.Ready (.miller d a b)) :
    s.Writes (exec (.miller d a b) s) d
      (fq12Words (millerValue (s.fqAt a.toNat) (s.fqAt (a.toNat + 1)) (s.fq2At b.toNat) (s.fq2At (b.toNat + 2)))) := by
  obtain ⟨hc, hr⟩ := h.checks_pass rfl rfl rfl
  have hP := State.readAff1_ok (hr (a, .af1) (by simp [Instr.operands]))
  have hQ := State.readAff2_ok (hr (b, .af2) (by simp [Instr.operands]))
  exact s.writes_of_ok (checked_read_read_ok hc hP hQ _) (fits_of_checkSlots hc (Nat.succ_pos _))

theorem execFinexp_fails (h : s.Ready (.finexp d a)) (hzero : s.fq12At a.toNat = Fq12.zero) :
    s.Fails (exec (.finexp d a) s) .divisionByZero := by
  obtain ⟨hc, ⟨-, hread⟩, -⟩ := fq12Operand.ready h rfl rfl rfl rfl
  have hexec : exec (.finexp d a) s = s.finishSlots d (.error .divisionByZero) :=
    congrArg (s.finishSlots d) ((checked_read_bind hc hread _).trans (if_pos hzero))
  exact hexec ▸ s.finishSlots_error d .divisionByZero

/-- What PAIR makes of two points (45_pairing.md R309). -/
def pairResult (P : G1) (Q : G2) : Result (List SlotWord) :=
  if P.z = 0 ∨ Q.z = Fq2.zero then .ok (fq12Words Fq12.one)
  else if pairMiller P Q = Fq12.zero then .error .divisionByZero
  else .ok (fq12Words (finalExp (pairMiller P Q)))

/-- PAIR of readable operands ends with its result for the points they show, which fits the slot file. -/
theorem exec_pair (h : s.Ready (.pair d a b)) :
    exec (.pair d a b) s = s.finishSlots d (pairResult (s.g1At a.toNat) (s.g2At b.toNat)) ∧ d.toNat + 12 ≤ 256 := by
  obtain ⟨hc, hr⟩ := h.checks_pass rfl rfl rfl
  have hP := State.readG1_ok (hr (a, .g1) (by simp [Instr.operands]))
  have hQ := State.readG2_ok (hr (b, .g2) (by simp [Instr.operands]))
  refine ⟨congrArg (s.finishSlots d) ((checked_read_bind hc hP _).trans ?_), fits_of_checkSlots hc (Nat.succ_pos _)⟩
  rw [hQ, result_ok_bind, pairResult]
  exact if_congr Iff.rfl rfl (if_congr Iff.rfl rfl rfl)

/-- The words of 1 (10_state.md R22). -/
theorem fq12Words_one : fq12Words Fq12.one = fqToWord 1 :: List.replicate 11 0 := by
  change fqToWord 1 :: List.replicate 11 (fqToWord 0) = _
  rw [fqView.word_zero]
  rfl

end commands

/-- Settles O56: the commands write the model's line steps, which are the doubling with the tangent and the chord's point and
line. -/
theorem lineStepCommands : Obligations.LineStepCommands :=
  ⟨fun _ _ _ _ => ⟨⟨rfl, rfl⟩, execLinedbl_writes, execLineadd_writes⟩,
    fun R xQ yQ xP yP => ⟨lineDbl_eq R xP yP, lineAdd_eq R xQ yQ xP yP, chordPoint_eq_g2Add⟩⟩

/-- Settles O58: each command reads its operands, and PAIR and FINEXP refuse the value 0. -/
theorem pairingCommands : Obligations.PairingCommands := by
  intro s d a b P Q
  refine ⟨⟨rfl, rfl, rfl⟩, execMiller_writes, fun h =>
    ⟨fun hne => fq12Operand.writes_nonzero h rfl rfl rfl rfl (fun _ => rfl) hne, execFinexp_fails h⟩, fun h => ?pair⟩
  case pair =>
    obtain ⟨hexec, hfit⟩ := exec_pair h
    rw [hexec, ← fq12Words_one]
    refine ⟨fun hid => s.writes_of_ok (if_pos hid) hfit, fun hP hQ => ?_⟩
    have hres : pairResult P Q = _ := if_neg (not_or.mpr ⟨hP, hQ⟩)
    exact ⟨fun hne => s.writes_of_ok (hres.trans (if_neg hne)) hfit,
      fun hzero => (hres.trans (if_pos hzero)).symm ▸ s.finishSlots_error d .divisionByZero⟩

end Sys2Proof.Machine

/-! SUPPORT. The final exponentiation (45_pairing.md R307): what its easy part and its chain do to products, and the chain's steps
gathered. -/

namespace Sys2Proof.Machine

/-! ### The inverses respect products (42_tower.md R183, R195, R205, R215) -/

theorem fqInverse_eq_pow (x : Fq) : letI := fqRing; fqInverse x = x ^ (Config.q - 2) :=
  @expInt_eq_pow Fq fqRing.toMonoid x _

theorem fqInverse_mul (x y : Fq) : fqInverse (x * y) = fqInverse x * fqInverse y := by
  let := fqRing
  rw [fqInverse_eq_pow, fqInverse_eq_pow, fqInverse_eq_pow]
  exact mul_pow x y _

/-- The norm to Fq respects products, and so does its inverse, which is a power. -/
theorem Fq2.inverse_mul (a b : Fq2) : (a.mul b).inverse = a.inverse.mul b.inverse := by
  let := fqRing
  have hnorm : (a.mul b).c0 * (a.mul b).c0 + (a.mul b).c1 * (a.mul b).c1 =
      (a.c0 * a.c0 + a.c1 * a.c1) * (b.c0 * b.c0 + b.c1 * b.c1) := by
    simp only [Fq2.mul]; ring
  simp only [Fq2.inverse, hnorm, fqInverse_mul]
  simp only [Fq2.mul, Fq2.mk.injEq]
  constructor <;> ring

/-- The three values that the inverse formula of Fq6 multiplies by the norm's inverse (42_tower.md R183). -/
def Fq6.adjugate (a : Fq6) : Fq6 :=
  ⟨(a.c0.mul a.c0).sub (a.c1.mul a.c2).mulXi, (a.c2.mul a.c2).mulXi.sub (a.c0.mul a.c1), (a.c1.mul a.c1).sub (a.c0.mul a.c2)⟩

theorem Fq6.inverse_eq (a : Fq6) : a.inverse = a.adjugate.mul (Fq6.ofFq2 a.norm.inverse) := by
  rw [← Fq6.scale_eq]
  rfl

theorem Fq6.adjugate_eq (a : Fq6) : letI := fq2Ring
    a.adjugate = ⟨a.c0 * a.c0 - xi * (a.c1 * a.c2), xi * (a.c2 * a.c2) - a.c0 * a.c1, a.c1 * a.c1 - a.c0 * a.c2⟩ := by
  simp only [Fq6.adjugate, Fq2.mulXi_eq]
  rfl

theorem Fq6.adjugate_mul (a b : Fq6) : (a.mul b).adjugate = a.adjugate.mul b.adjugate := by
  let := fq2Ring
  simp only [Fq6.adjugate_eq, Fq6.mul_eq, Fq6.mk.injEq]
  refine ⟨?_, ?_, ?_⟩ <;> ring

theorem Fq6.mul_adjugate (a : Fq6) : a.mul a.adjugate = Fq6.ofFq2 a.norm := by
  let := fq2Ring
  have hxi (c : Fq2) : xi * c = c.mulXi := (Fq2.mulXi_eq c).symm
  have hnorm : Fq6.ofFq2 a.norm =
      ⟨a.c0 * a.adjugate.c0 + xi * (a.c2 * a.adjugate.c1 + a.c1 * a.adjugate.c2), 0, 0⟩ := by
    rw [hxi]; rfl
  rw [hnorm, Fq6.mul_eq, Fq6.adjugate_eq, Fq6.mk.injEq]
  refine ⟨?_, ?_, ?_⟩ <;> ring

/-- The norm of Fq6 is the product of a value and its adjugate, and both factors respect products. -/
theorem Fq6.norm_mul (a b : Fq6) : (a.mul b).norm = a.norm.mul b.norm := by
  let := fq6Ring
  have hofFq2 : Fq6.ofFq2 (a.mul b).norm = Fq6.ofFq2 (a.norm.mul b.norm) := by
    rw [← Fq6.ofFq2_mul, ← Fq6.mul_adjugate, ← Fq6.mul_adjugate, ← Fq6.mul_adjugate, Fq6.adjugate_mul]
    exact mul_mul_mul_comm a b a.adjugate b.adjugate
  exact congrArg Fq6.c0 hofFq2

theorem Fq6.inverse_mul (a b : Fq6) : (a.mul b).inverse = a.inverse.mul b.inverse := by
  let := fq6Ring
  rw [Fq6.inverse_eq, Fq6.inverse_eq, Fq6.inverse_eq, Fq6.norm_mul, Fq2.inverse_mul, ← Fq6.ofFq2_mul, Fq6.adjugate_mul]
  exact mul_mul_mul_comm a.adjugate b.adjugate (Fq6.ofFq2 a.norm.inverse) (Fq6.ofFq2 b.norm.inverse)

theorem Fq12.norm_mul (a b : Fq12) : (a.mul b).norm = a.norm.mul b.norm := by
  let := fq6Ring
  have hnorm (c : Fq12) : c.norm = c.c0 * c.c0 - fq6Y * (c.c1 * c.c1) := by
    rw [Fq12.norm, Fq6.mulNr_eq]; rfl
  have hmul (c d : Fq6) : c.mul d = c * d := rfl
  simp only [hnorm, hmul, Fq12.mul_eq_ring]
  ring

/-- An element of Fq6 in Fq12. -/
def Fq12.ofFq6 (k : Fq6) : Fq12 := ⟨k, Fq6.zero⟩

theorem Fq12.ofFq6_mul (k l : Fq6) : (Fq12.ofFq6 k).mul (Fq12.ofFq6 l) = Fq12.ofFq6 (k.mul l) := by
  let := fq6Ring
  have hofFq6 (c : Fq6) : Fq12.ofFq6 c = ⟨c, 0⟩ := rfl
  have hmul : k.mul l = k * l := rfl
  simp only [hofFq6, hmul, Fq12.mul_eq_ring, Fq12.mk.injEq]
  constructor <;> ring

/-- The inverse is the conjugate times the inverse of the norm. -/
theorem Fq12.inverse_eq (a : Fq12) : a.inverse = a.conj.mul (Fq12.ofFq6 a.norm.inverse) := by
  let := fq6Ring
  have hofFq6 (c : Fq6) : Fq12.ofFq6 c = ⟨c, 0⟩ := rfl
  have hconj : a.conj = ⟨a.c0, -a.c1⟩ := rfl
  have hinverse : a.inverse = ⟨a.c0 * a.norm.inverse, -(a.c1 * a.norm.inverse)⟩ := rfl
  rw [hinverse, hconj, hofFq6, Fq12.mul_eq_ring, Fq12.mk.injEq]
  constructor <;> ring

/-! ### Conjugation and Frobenius as homomorphisms of the monoid Fq12 -/

theorem Fq12.conj_conj (a : Fq12) : a.conj.conj = a := by
  let := fq6Ring
  exact congrArg (Fq12.mk a.c0) (neg_neg a.c1)

/-- Conjugation is Frobenius to the power 6, so it respects products. -/
theorem Fq12.conj_mul (a b : Fq12) : (a.mul b).conj = a.conj.mul b.conj := by
  simp only [← Fq12.frob_six, Fq12.frob_mul]

theorem Fq12.one_frob (k : Nat) : Fq12.one.frob k = Fq12.one := by
  let := fq6Ring
  have hone : Fq6.one.frob k = Fq6.one := by
    simp only [Fq6.frob_eq, Fq6.one, Fq2.one_frob, Fq2.zero_frob, Fq2.zero_mul]
  have hzero : Fq6.zero.frob k = Fq6.zero := by
    simp only [Fq6.frob_eq, Fq6.zero, Fq2.zero_frob, Fq2.zero_mul]
  rw [Fq12.frob_eq, Fq12.one, hone, hzero]
  exact congrArg (Fq12.mk Fq6.one) (zero_mul _)

theorem Fq12.one_conj : Fq12.one.conj = Fq12.one := by rw [← Fq12.frob_six, Fq12.one_frob]

theorem Fq12.inverse_mul (a b : Fq12) : (a.mul b).inverse = a.inverse.mul b.inverse := by
  let := fq12Monoid
  rw [Fq12.inverse_eq, Fq12.inverse_eq, Fq12.inverse_eq, Fq12.norm_mul, Fq6.inverse_mul, ← Fq12.ofFq6_mul, Fq12.conj_mul]
  exact mul_mul_mul_comm a.conj b.conj (Fq12.ofFq6 a.norm.inverse) (Fq12.ofFq6 b.norm.inverse)

theorem Fq12.one_inverse : Fq12.one.inverse = Fq12.one := by decide +kernel

/-- A map of Fq12 that respects products and 1. -/
structure Fq12.Multiplicative (f : Fq12 → Fq12) : Prop where
  one : f Fq12.one = Fq12.one
  mul : ∀ m n : Fq12, f (m.mul n) = (f m).mul (f n)

namespace Fq12.Multiplicative
variable {f g : Fq12 → Fq12}

theorem comp (hf : Multiplicative f) (hg : Multiplicative g) : Multiplicative fun m => f (g m) :=
  ⟨by rw [hg.one, hf.one], fun m n => by rw [hg.mul, hf.mul]⟩

/-- The product of two such maps, because Fq12 is commutative. -/
theorem product (hf : Multiplicative f) (hg : Multiplicative g) : Multiplicative fun m => (f m).mul (g m) := by
  let := fq12Monoid
  refine ⟨by rw [hf.one, hg.one, Fq12.one_mul], fun m n => ?_⟩
  rw [hf.mul, hg.mul]
  exact mul_mul_mul_comm (f m) (f n) (g m) (g n)

theorem identity : Multiplicative fun m => m := ⟨rfl, fun _ _ => rfl⟩
theorem frob (k : Nat) : Multiplicative fun m => m.frob k := ⟨Fq12.one_frob k, fun m n => m.frob_mul n k⟩
theorem conj : Multiplicative Fq12.conj := ⟨Fq12.one_conj, Fq12.conj_mul⟩
theorem inverse : Multiplicative Fq12.inverse := ⟨Fq12.one_inverse, Fq12.inverse_mul⟩

theorem exp (e : Nat) : Multiplicative fun m => m.exp e := by
  let := fq12Monoid
  simp only [Fq12.exp_eq_pow]
  exact ⟨one_pow e, fun m n => mul_pow m n e⟩

/-- Such a map respects powers. -/
theorem map_exp (hf : Multiplicative f) (a : Fq12) (e : Nat) : f (a.exp e) = (f a).exp e := by
  let := fq12Monoid
  rw [Fq12.exp_eq_pow, Fq12.exp_eq_pow]
  induction e with
  | zero => exact hf.one
  | succ e ih =>
    rw [pow_succ, pow_succ, ← ih]
    exact hf.mul (a ^ e) a

end Fq12.Multiplicative

/-! ### Powers in Fq12 (42_tower.md R220) -/

section powers
variable (a : Fq12) (m n : Nat)

theorem Fq12.exp_add : (a.exp m).mul (a.exp n) = a.exp (m + n) := by
  let := fq12Monoid
  simp only [Fq12.exp_eq_pow]
  exact (pow_add a m n).symm

theorem Fq12.exp_exp : (a.exp m).exp n = a.exp (m * n) := by
  let := fq12Monoid
  simp only [Fq12.exp_eq_pow]
  exact (pow_mul a m n).symm

theorem Fq12.exp_one : a.exp 1 = a := by
  let := fq12Monoid
  rw [Fq12.exp_eq_pow]
  exact pow_one a

/-- Two of the chain's powers one after the other undo each other's conjugation. -/
theorem ebx_ebx : ebx (ebx a m) n = a.exp (m * n) := by
  rw [ebx, ebx, ← Fq12.Multiplicative.conj.map_exp, Fq12.conj_conj, Fq12.exp_exp]

end powers

/-! ### The chain (45_pairing.md R307) -/

/-- The first lines of the chain: the powers 2x, 1 and x^2 gather to (x + 1)^2, for an even x whose half the chain uses. -/
theorem chain_start (g : Fq12) {x h : Nat} (hx : x = 2 * h) :
    (((ebx (g.mul g) x).mul g.conj).conj).mul (ebx (ebx (g.mul g) x) h) = g.exp ((x + 1) ^ 2) := by
  have hsquare : g.mul g = g.exp 2 := by
    rw [← Fq12.exp_add g 1 1, Fq12.exp_one]
  have hleft : ((ebx (g.mul g) x).mul g.conj).conj = g.exp (2 * x + 1) := by
    rw [Fq12.conj_mul, ebx, Fq12.conj_conj, Fq12.conj_conj, hsquare, Fq12.exp_exp, ← Fq12.exp_add, Fq12.exp_one]
  rw [hleft, ebx_ebx, hsquare, Fq12.exp_exp, Fq12.exp_add]
  congr 1
  rw [hx]
  ring

/-- The chain with its first lines gathered into a and d. -/
theorem finalHard_eq (g : Fq12) {a d : Fq12} (ha : a = g.exp ((Config.uAbs + 1) ^ 2))
    (hd : d = (a.exp (Config.uAbs ^ 2)).mul a.conj) :
    finalHard g = (((a.frob 3).mul ((ebx a Config.uAbs).frob 2)).mul (((ebx d Config.uAbs).mul (g.mul g)).mul g)).mul
      (d.frob 1) := by
  have hstart := chain_start g (x := Config.uAbs) (h := Config.uAbs >>> 1) rfl
  rw [← ha] at hstart
  have hquotient : (ebx (ebx a Config.uAbs) Config.uAbs).mul a.conj = d := by rw [ebx_ebx, ← pow_two, hd]
  simp only [finalHard, hstart, Fq12.conj_conj, hquotient]

/-- The chain has the gathered value: only the grouping of its last products is left. -/
theorem finalHard_eq_gatheredChain (g : Fq12) : finalHard g = gatheredChain g := by
  have hcube : g.exp 3 = (g.mul g).mul g := by
    rw [← Fq12.exp_add g 2 1, ← Fq12.exp_add g 1 1, Fq12.exp_one]
  rw [finalHard_eq g rfl rfl]
  simp only [gatheredChain, hcube, ebx, Fq12.mul_assoc]

section multiplicative
open Fq12.Multiplicative

theorem finalEasy_multiplicative : Fq12.Multiplicative finalEasy :=
  have ht : Fq12.Multiplicative fun m => m.conj.mul m.inverse := conj.product inverse
  ((frob 2).product identity).comp ht

theorem gatheredChain_multiplicative : Fq12.Multiplicative gatheredChain :=
  have ha : Fq12.Multiplicative fun g => g.exp ((Config.uAbs + 1) ^ 2) := exp _
  have hd := ((exp (Config.uAbs ^ 2)).product conj).comp ha
  have hax := conj.comp ((exp Config.uAbs).comp ha)
  have hdx := conj.comp ((exp Config.uAbs).comp hd)
  (((((frob 3).comp ha).product ((frob 2).comp hax)).product hdx).product (exp 3)).product ((frob 1).comp hd)

theorem finalExp_multiplicative : Fq12.Multiplicative finalExp := by
  have hfinal : finalExp = fun m => gatheredChain (finalEasy m) := funext fun m => finalHard_eq_gatheredChain (finalEasy m)
  rw [hfinal]
  exact gatheredChain_multiplicative.comp finalEasy_multiplicative

end multiplicative

/-- Settles O59: the chain has its gathered value, and the final exponentiation is made of maps that respect products and 1. -/
theorem finalExponentiationIsTheChain : Obligations.FinalExponentiationIsTheChain :=
  ⟨fun m => finalHard_eq_gatheredChain (finalEasy m), finalExp_multiplicative.one, finalExp_multiplicative.mul⟩

end Sys2Proof.Machine

/-! SUPPORT. Single steps of a busy core: the command that runs, the accesses answered before it, how often that happens until it is
over, and the steps that clear ERR (60_exceptions.md R327 to R331; 70_reset_and_hazards.md R372). -/

namespace Sys2Proof.Machine

/-! ### Accepting and running a command (60_exceptions.md R327, R330) -/

/-- Settles O20: a CMD write accepts its word. -/
theorem commandWriteIsAcceptedOrDiscarded : Obligations.CommandWriteIsAcceptedOrDiscarded := by
  intro s v
  rw [performAccess_register s (by simp), State.busWrite_cmd, State.accept]
  exact ⟨fun herr => by rw [if_pos herr], fun herr => ⟨_, by rw [if_neg (Bool.eq_false_iff.mp herr)]⟩⟩

/-- When the time of the command in flight is over and every waiting access is held, the command runs. -/
theorem step_of_due {s : State} {w : Word} (hbusy : s.inflight = some w) (hheld : ∀ x ∈ s.pending, x.held = true)
    (hwait : s.wait = 0) : step s = runCommand w s := by
  rw [step_of_busy hbusy]
  simp only [busyStep, (takeUnheld_none _).mpr hheld, hwait]

/-- Settles O5: a due command runs as what its word decodes to. -/
theorem stepRunsTheDecodedCommand : Obligations.StepRunsTheDecodedCommand := by
  intro s w i hbusy hwait hheld hdec
  rw [step_of_due hbusy hheld hwait, runCommand, hdec]

/-- A word in flight ends in an end state of some command: one that does not decode raises an error as any command may. -/
theorem runCommand_ends (w : Word) (s : State) : ∃ i, Ends i s (runCommand w s) := by
  unfold runCommand
  split
  next i _ => exact ⟨i, exec_ends i s⟩
  next => exact ⟨.nop, ends_raise nofun⟩

/-- An access that is not held shows only on the bus (20_memory.md R66). -/
theorem performAccess_unheld (s : State) {x : Access} (hx : x.held = false) :
    ∃ r, performAccess x s = .next { s with rdata := r } := by
  obtain ⟨off, rfl, halign, hlow⟩ | ⟨off, v, rfl, halign, hlow, h1, h2, h3, h4⟩ := Access.not_held x hx
  · exact ⟨_, performAccess_read s (hlow.trans (by decide)) halign⟩
  · refine ⟨s.rdata, ?_⟩
    rw [performAccess_write s (hlow.trans (by decide)) halign, State.busWrite_ignored s hlow (by simp [h1, h2, h3, h4])]

/-- What a step of a busy core does: it answers one access that is not held, or lets one unit of time pass, or ends the command. -/
theorem step_busy_cases {s : State} {w : Word} (hbusy : s.inflight = some w) :
    (∃ pre post x r, s.pending = pre ++ x :: post ∧ x.held = false ∧
      step s = .next { s with pending := pre ++ post, rdata := r }) ∨
    (∃ n, s.wait = n + 1 ∧ step s = .next { s with wait := n }) ∨
    ((∀ x ∈ s.pending, x.held = true) ∧ step s = runCommand w s) := by
  cases htake : takeUnheld s.pending with
  | some p =>
    obtain ⟨x, rest⟩ := p
    obtain ⟨pre, post, hpending, rfl, hx, hpre⟩ := takeUnheld_some _ _ _ htake
    obtain ⟨r, hr⟩ := performAccess_unheld { s with pending := pre ++ post } hx
    exact .inl ⟨pre, post, x, r, hpending, hx, (step_of_unheld hbusy hpre hx hpending).trans hr⟩
  | none =>
    have hheld := (takeUnheld_none _).mp htake
    cases hwait : s.wait with
    | zero => exact .inr (.inr ⟨hheld, step_of_due hbusy hheld hwait⟩)
    | succ n => exact .inr (.inl ⟨n, rfl, step_of_wait hbusy hheld hwait⟩)

/-! ### A command is over after finitely many steps (70_reset_and_hazards.md R372) -/

/-- A bound on the steps of a busy core before the one that ends its command: waiting accesses to answer, and time to pass. -/
def State.remaining (s : State) : Nat := s.pending.length + s.wait

/-- A busy core ends its command in a step, with only held accesses waiting, or comes nearer to its end and keeps them in order. -/
theorem step_busy_progress {s : State} (hs : s.Inv) (hbusy : s.busy = true) :
    ∃ t, step s = .next t ∧ t.Inv ∧
      ((t.busy = false ∧ t.pending = s.pending.filter Access.held) ∨
        (t.busy = true ∧ t.pending.filter Access.held = s.pending.filter Access.held ∧ t.remaining < s.remaining)) := by
  obtain ⟨t, ht, htinv⟩ := everyStepCompletesAndKeepsTheInvariant s hs
  refine ⟨t, ht, htinv, ?_⟩
  obtain ⟨w, hw⟩ := Option.isSome_iff_exists.mp hbusy
  obtain ⟨pre, post, x, r, hpending, hx, hstep⟩ | ⟨n, hwait, hstep⟩ | ⟨hheld, hstep⟩ := step_busy_cases hw
  · cases ht.symm.trans hstep
    refine .inr ⟨hbusy, by simp [hpending, hx], ?_⟩
    simp only [State.remaining, hpending, List.length_append, List.length_cons]
    omega
  · cases ht.symm.trans hstep
    refine .inr ⟨hbusy, rfl, ?_⟩
    simp only [State.remaining, hwait]
    omega
  · obtain ⟨i, t', ht', hend⟩ := runCommand_ends w s
    cases (ht.symm.trans hstep).trans ht'
    obtain ⟨-, -, hpending, -, hidle⟩ := hend.frame
    exact .inl ⟨by simp [State.busy, hidle], by rw [hpending, List.filter_eq_self.mpr hheld]⟩

/-- A run of any core goes on after its first step. -/
theorem run_succ {M : Host.Core} {s t : M.State} (h : M.step s = .next t) (k : Nat) : M.run (k + 1) s = M.run k t := by
  simp only [Host.Core.run, h]

/-- Settles O22, by strong induction on the steps that remain. -/
theorem everyCommandCompletesInFiniteTime : Obligations.EveryCommandCompletesInFiniteTime := by
  intro s
  induction hn : s.remaining using Nat.strong_induction_on generalizing s with
  | _ n ih =>
    intro hs hbusy
    obtain ⟨t, hstep, ht, ⟨hidle, hpending⟩ | ⟨htbusy, hfilter, hlt⟩⟩ := step_busy_progress hs hbusy
    · exact ⟨1, t, run_succ (M := Sys2Proof.core) hstep 0, hidle, hpending⟩
    · obtain ⟨k, u, hrun, hidle, hpending⟩ := ih t.remaining (hn ▸ hlt) t rfl ht htbusy
      exact ⟨k + 1, u, (run_succ (M := Sys2Proof.core) hstep k).trans hrun, hidle, hpending.trans hfilter⟩

/-! ### The steps that clear ERR (60_exceptions.md R328) -/

/-- The two register writes that clear an error: STATUS and CTRL, with bit 2 set. -/
def ClearsErr (off : Nat) (v : Word) : Prop := (off = 0x008 ∨ off = 0x010) ∧ v.getLsbD 2 = true

theorem State.busWrite_clears (s : State) {off : Nat} {v : Word} (h : ClearsErr off v) :
    (s.busWrite off v).err = false ∧ (s.busWrite off v).errcode = 0 ∧ (s.busWrite off v).errinfo = 0 := by
  obtain ⟨rfl | rfl, hbit⟩ := h
  · rw [State.busWrite_ctrl, State.writeCtrl, if_pos hbit]
    exact ⟨rfl, rfl, rfl⟩
  · rw [State.busWrite_status, State.writeStatus, if_pos hbit]
    exact ⟨rfl, rfl, rfl⟩

/-- A write that clears ERR is one of the two. -/
theorem State.clearsErr_of_busWrite {s : State} {off : Nat} {v : Word} (hs : s.err = true) (ht : (s.busWrite off v).err = false) :
    ClearsErr off v := by
  by_contra hno
  refine Bool.false_ne_true (ht.symm.trans (Eq.trans ?_ hs))
  by_cases hwin : windowBase ≤ off
  · rw [State.busWrite_window s hwin, State.setSlot_err]
  by_cases hreg : off ∈ [0x008, 0x010, 0x018, 0x028]
  · simp only [List.mem_cons, List.not_mem_nil, or_false] at hreg
    obtain rfl | rfl | rfl | rfl := hreg
    · have hbit : ¬ v.getLsbD 2 = true := fun h => hno ⟨.inl rfl, h⟩
      rw [State.busWrite_ctrl, State.writeCtrl, if_neg hbit]
    · have hbit : ¬ v.getLsbD 2 = true := fun h => hno ⟨.inr rfl, h⟩
      rw [State.busWrite_status, State.writeStatus_eq_update, Bool.eq_false_iff.mpr hbit]
      exact Bool.and_true _
    · rw [State.busWrite_cmd, State.accept_err]
    · rw [State.busWrite_entropy, State.pushEntropy_err]
  · rw [State.busWrite_ignored s (Nat.not_le.mp hwin) hreg]

/-- An access is performed only in the block (20_memory.md R67). -/
theorem off_lt_of_performAccess {x : Access} {s t : State} (h : performAccess x s = .next t) : x.off < Config.blockSize := by
  by_contra hout
  unfold performAccess at h
  rw [if_pos (Nat.not_lt.mp hout)] at h
  cases h

/-- An access that clears ERR is one of the two writes: an improper access leaves a recorded error as it is (R323). -/
theorem clearsErr_of_performAccess {x : Access} {s t : State} (h : performAccess x s = .next t) (hs : s.err = true)
    (ht : t.err = false) : ∃ off v, x = .write off 8 v ∧ ClearsErr off v := by
  have hkept (off : Nat) : (s.accessError off).err = true := by rw [State.accessError, if_pos hs, hs]
  obtain ⟨_, _, _, he⟩ | ⟨off, v, hx, _, he⟩ | ⟨off, _, _, _, he⟩ | ⟨off, _, _, _, _, he⟩ :=
    performAccess_cases x s (off_lt_of_performAccess h) <;> cases h.symm.trans he
  · exact nomatch hs.symm.trans ht
  · exact ⟨off, v, hx, State.clearsErr_of_busWrite hs ht⟩
  · exact nomatch (hkept off).symm.trans ht
  · exact nomatch (hkept off).symm.trans ht

/-- A step of a busy core clears no error: the two writes are held, and no command clears ERR (20_memory.md R66). -/
theorem step_busy_keeps_err {s t : State} {w : Word} (hbusy : s.inflight = some w) (h : step s = .next t) (hs : s.err = true) :
    t.err = true := by
  obtain ⟨_, _, _, _, _, _, hstep⟩ | ⟨_, _, hstep⟩ | ⟨_, hstep⟩ := step_busy_cases hbusy
  · cases h.symm.trans hstep
    exact hs
  · cases h.symm.trans hstep
    exact hs
  · obtain ⟨i, t', ht', hend⟩ := runCommand_ends w s
    cases (h.symm.trans hstep).trans ht'
    obtain hdone | ⟨_, _, hfail⟩ := hend.ended
    · exact hdone.err.trans hs
    · exact hfail.err

/-- Settles O23: a busy step clears no error, and an idle step only by the access it performs. -/
theorem onlyTheHostClearsErr : Obligations.OnlyTheHostClearsErr := by
  refine ⟨fun s v off hbit hoff => ?_, fun s t h hs ht => ?_⟩
  · refine ⟨_, performAccess_register s ?_ v, s.busWrite_clears ⟨hoff, hbit⟩⟩
    obtain rfl | rfl := hoff <;> simp
  · cases hinflight : s.inflight with
    | some w => exact nomatch (step_busy_keeps_err hinflight h hs).symm.trans ht
    | none =>
      rw [step_of_idle hinflight, idleStep] at h
      split at h
      next => cases h; exact nomatch hs.symm.trans ht
      next x rest hpending =>
        obtain ⟨off, v, rfl, hoff, hbit⟩ := clearsErr_of_performAccess h hs ht
        exact ⟨off, v, rest, rfl, hpending, hoff, hbit⟩

end Sys2Proof.Machine

/-! SUPPORT. How a command with readable operands ends, said once for all commands: with the error of its value check, or completed
(60_exceptions.md R320 to R322, R330); and what a command that raises an error leaves (R324, R326). -/

namespace Sys2Proof.Machine

/-! ### The error of a result -/

/-- The error a result is, if it is one. -/
def errorOf {α : Type} : Result α → Option ErrCode
  | .ok _ => none
  | .error c => some c

section errorOf
variable {α β : Type}

theorem errorOf_map (f : α → β) (res : Result α) : errorOf (res.map f) = errorOf res := by
  cases res <;> rfl

/-- A value check before an answer is all that can fail. -/
theorem errorOf_check (p : Prop) [Decidable p] (c : ErrCode) (x : α) :
    errorOf (do
      if p then throw c
      return x : Result α) = if p then some c else none := by
  by_cases h : p
  · rw [if_pos h, if_pos h]; rfl
  · rw [if_neg h, if_neg h]; rfl

/-- The form of TOAFF: a case that answers at once, and a check in the other that the first excludes (43_groups.md R255, R265). -/
theorem errorOf_answer_or_check {p q : Prop} [Decidable p] [Decidable q] (hpq : p → ¬ q) (c : ErrCode) (x y : α) :
    errorOf (if p then pure x else if q then throw c else pure y : Result α) = if q then some c else none := by
  by_cases hp : p
  · rw [if_pos hp, if_neg (hpq hp)]; rfl
  · rw [if_neg hp]
    by_cases hq : q
    · rw [if_pos hq, if_pos hq]; rfl
    · rw [if_neg hq, if_neg hq]; rfl

/-- A read with one check that answers a value answers the value it shows. -/
theorem readAs_value {p : Bool} {v x : α} {c : ErrCode} {ra : Result α} (hra : ra = readAs p v c) (hx : ra = .ok x) : x = v := by
  cases p <;> cases hra.symm.trans hx
  rfl

theorem State.readFr_value {s : State} {n : Nat} {x : Fr} (hx : s.readFr n = .ok x) : x = s.frAt n := by
  rw [State.readFr_eq] at hx
  split at hx <;> cases hx
  rfl

theorem State.readG2_value {s : State} {n : Nat} {P : G2} (hP : s.readG2 n = .ok P) : P = s.g2At n := by
  rw [State.readG2_eq] at hP
  split at hP
  · exact readAs_value rfl hP
  · cases hP

end errorOf

/-! ### The error of a command's operands and value -/

/-- Where the operands have no read error, the result is the error `e`, or a value for none. -/
def State.ErrsWith {α : Type} (s : State) (imm : Imm) (os : List (SlotNo × Kind)) (e : Option ErrCode) (res : Result α) : Prop :=
  (∀ o ∈ os, s.kindError imm o.1.toNat o.2 = none) → errorOf res = e

section errsWith
variable {α β : Type} {s : State} {imm : Imm} {os : List (SlotNo × Kind)} {a : SlotNo} {k : Kind} {e : Option ErrCode}

theorem State.ErrsWith.done {res : Result α} (h : errorOf res = e) : s.ErrsWith imm [] e res := fun _ => h

/-- A readable operand is read, and what is read of it goes on. -/
theorem State.ErrsWith.read {ra : Result α} {f : α → Result β} (hra : s.Reads imm a.toNat k ra)
    (hf : ∀ x, ra = .ok x → s.ErrsWith imm os e (f x)) : s.ErrsWith imm ((a, k) :: os) e (ra >>= f) := by
  intro h
  obtain ⟨ha, hos⟩ := List.forall_mem_cons.mp h
  cases ra with
  | error c => exact nomatch ha.symm.trans ((hra c).mpr rfl)
  | ok x => exact hf x rfl hos

/-- Integer, exponent and raw operands are not checked (10_state.md R28, R29). -/
theorem State.ErrsWith.raw {res : Result α} (hres : s.ErrsWith imm os e res) : s.ErrsWith imm ((a, k) :: os) e res :=
  fun h => hres (List.forall_mem_cons.mp h).2

/-- LINEADD reads the parts of its LA operand one after the other (45_pairing.md R304). -/
theorem State.ErrsWith.la {f : Fq2 → Fq2 → Fq → Fq → Result α} (hf : ∀ xQ yQ xP yP, errorOf (f xQ yQ xP yP) = e) :
    s.ErrsWith imm [(a, .la)] e (do
      let xQ ← s.readFq2 a.toNat
      let yQ ← s.readFq2 (a.toNat + 2)
      let xP ← s.readFq (a.toNat + 4)
      let yP ← s.readFq (a.toNat + 5)
      f xQ yQ xP yP) := by
  intro h
  rw [State.readLa_bind (h _ (List.mem_singleton_self _))]
  exact hf _ _ _ _

/-- A command that refuses one value of its operand errs exactly when the operand shows it (42_tower.md R195). -/
theorem State.ErrsWith.refuse [DecidableEq α] {ra : Result α} {v zero : α} {c : ErrCode} {ws : α → β}
    (hra : s.Reads imm a.toNat k ra) (hv : ∀ x, ra = .ok x → x = v) :
    s.ErrsWith imm [(a, k)] (if v = zero then some c else none) (do
      let x ← ra
      if x = zero then throw c
      return ws x) :=
  .read hra fun x hx => .done (hv x hx ▸ errorOf_check _ _ _)

end errsWith

/-! ### How a command on readable operands ends -/

/-- The command ends with error `c` and changes nothing else, or completes for none. Of ENTROPY_EXHAUSTED, which also pops words,
nothing is said here (41_field_fq_fr.md R155). -/
def State.EndsWith (s : State) (o : Outcome) : Option ErrCode → Prop
  | none => ∃ t, o = .next t ∧ s.Completed t
  | some c => c ≠ .entropyExhausted → s.Fails o c

section endsWith
variable {s : State} {i : Instr} {op : BitVec 8} {d e a b : SlotNo} {imm : Imm} {r : Form}

/-- Words that a command writes are no part of how it completes. -/
theorem State.writeRun_complete_completed (s : State) (d : Nat) (ws : List SlotWord) : s.Completed (s.writeRun d ws).complete := by
  constructor <;> simp

theorem State.finishSlots_endsWith (s : State) (d : SlotNo) (res : Result (List SlotWord)) :
    s.EndsWith (s.finishSlots d res) (errorOf res) := by
  cases res with
  | ok ws => exact ⟨_, rfl, s.writeRun_complete_completed _ _⟩
  | error c => exact fun _ => s.finishSlots_error d c

theorem State.finishEq_endsWith (s : State) (res : Result Bool) : s.EndsWith (s.finishEq res) (errorOf res) := by
  cases res with
  | ok b => exact ⟨_, rfl, rfl, rfl, rfl, rfl, rfl, rfl, rfl, rfl, rfl, rfl⟩
  | error c => exact fun _ => s.finishEq_error c

/-- A ready command that writes slots ends as its body does, after its range check and with its sources readable. -/
theorem State.finishSlots_endsWith_value {res body : Result (List SlotWord)} (h : s.Ready i)
    (hres : res = do checkSlots i.immField i.operands; body) (he : encode i = encodeWord op e a b imm)
    (hr : formOf op.toNat = some r) (hd : r.usesD = true)
    (hbody : s.ErrsWith i.immField (i.operands.drop 1) (s.valueError i) body) :
    s.EndsWith (s.finishSlots d res) (s.valueError i) := by
  obtain ⟨hc, hreads⟩ := h.checks_pass he hr hd
  rw [hc, result_ok_bind] at hres
  rw [hres, ← hbody hreads]
  exact s.finishSlots_endsWith d body

/-- A ready command whose row does not use D passes its range check, and all of its operands are readable. -/
theorem State.Ready.checks_pass_sources (h : s.Ready i) (he : encode i = encodeWord op e a b imm) (hr : formOf op.toNat = some r)
    (hd : r.usesD = false) :
    checkSlots i.immField i.operands = .ok () ∧ ∀ o ∈ i.operands, s.kindError i.immField o.1.toNat o.2 = none := by
  rw [State.Ready, State.operandError, Instr.sources_of_not_usesD he hr hd] at h
  split at h
  next hslots => exact ⟨(checkSlots_eq_ok _ _).mpr (List.all_eq_true.mp hslots), (State.readError_eq_none _ _ _).mp h⟩
  next => cases h

/-- The same for an equality command. -/
theorem State.finishEq_endsWith_value {res body : Result Bool} (h : s.Ready i)
    (hres : res = do checkSlots i.immField i.operands; body) (he : encode i = encodeWord op e a b imm)
    (hr : formOf op.toNat = some r) (hd : r.usesD = false) (hbody : s.ErrsWith i.immField i.operands (s.valueError i) body) :
    s.EndsWith (s.finishEq res) (s.valueError i) := by
  obtain ⟨hc, hreads⟩ := h.checks_pass_sources he hr hd
  rw [hc, result_ok_bind] at hres
  rw [hres, ← hbody hreads]
  exact s.finishEq_endsWith body

theorem execLdc_endsWith (hwf : (Instr.ldc d imm).wellFormed = true) (h : s.Ready (.ldc d imm)) :
    s.EndsWith (execLdc d imm s) none := by
  obtain ⟨ws, hws⟩ := romWords_of_wellFormed hwf
  rw [execLdc, hws]
  exact State.finishSlots_endsWith_value h rfl rfl rfl rfl (.done rfl)

/-- PAIR errs exactly for two points that are no identities and have the Miller value 0 (45_pairing.md R309). -/
theorem errorOf_pairResult (P : G1) (Q : G2) :
    errorOf (pairResult P Q) =
      if P.z ≠ 0 ∧ Q.z ≠ Fq2.zero ∧ pairMiller P Q = Fq12.zero then some .divisionByZero else none := by
  by_cases hid : P.z = 0 ∨ Q.z = Fq2.zero
  · rw [pairResult, if_pos hid, if_neg fun h => hid.elim h.1 h.2.1]
    rfl
  · obtain ⟨hP, hQ⟩ := not_or.mp hid
    rw [pairResult, if_neg hid]
    by_cases hzero : pairMiller P Q = Fq12.zero
    · rw [if_pos hzero, if_pos ⟨hP, hQ, hzero⟩]
      rfl
    · rw [if_neg hzero, if_neg fun h => hzero h.2.2]
      rfl

end endsWith

/-! ### Sampling commands (41_field_fq_fr.md R155, R168) -/

section draws
variable {g bits m : Nat} {loop : List Word → Result Nat × List Word} {s : State} {d : SlotNo}

/-- The loop answers a value as soon as one of the whole draws is accepted. -/
theorem DrawLoop.answers (h : DrawLoop g bits m loop) {ws : List Word}
    (hacc : ∃ k < ws.length / g, Accepted m (drawAt g bits ws k)) : ∃ v rest, loop ws = (.ok v, rest) := by
  classical
  obtain ⟨hlt, hfirst⟩ := Nat.find_spec hacc
  have hlen : g * (Nat.find hacc + 1) ≤ ws.length := (Nat.mul_le_mul_left g hlt).trans (Nat.mul_div_le _ _)
  exact ⟨_, _, h.first_accepted _ ws hlen hfirst fun j hj hj' => Nat.find_min hacc hj ⟨hj.trans hlt, hj'⟩⟩

/-- The loop is out of words exactly when no whole draw is accepted. -/
theorem DrawLoop.errorOf_eq (h : DrawLoop g bits m loop) (ws : List Word) :
    errorOf (loop ws).1 =
      if (List.range (ws.length / g)).any fun k => drawAt g bits ws k != 0 && decide (drawAt g bits ws k < m) then none
      else some .entropyExhausted := by
  have hany : ((List.range (ws.length / g)).any fun k => drawAt g bits ws k != 0 && decide (drawAt g bits ws k < m)) = true ↔
      ∃ k < ws.length / g, Accepted m (drawAt g bits ws k) := by
    simp [Accepted]
  by_cases hacc : ∃ k < ws.length / g, Accepted m (drawAt g bits ws k)
  · obtain ⟨v, rest, hloop⟩ := h.answers hacc
    rw [if_pos (hany.mpr hacc), hloop]
    rfl
  · rw [if_neg (mt hany.mp hacc), h.all_rejected _ ws rfl fun k hk hk' => hacc ⟨k, hk, hk'⟩]
    rfl

theorem State.finishDraw_endsWith (s : State) (d : SlotNo) (res : Result (List SlotWord)) (rest : List Word)
    (hres : ∀ c, errorOf res = some c → c = .entropyExhausted) : s.EndsWith (s.finishDraw d res rest) (errorOf res) := by
  cases res with
  | ok ws => exact ⟨_, rfl, (State.writeRun_complete_completed { s with entropy := rest } _ ws).of_entropy⟩
  | error c => exact fun hc => absurd (hres c rfl) hc

/-- A sampling command errs as its loop does. -/
theorem DrawLoop.endsWith (h : DrawLoop g bits m loop) (s : State) (d : SlotNo) (f : Nat → List SlotWord) :
    s.EndsWith (s.finishDraw d ((loop s.entropy).1.map f) (loop s.entropy).2)
      (if (List.range (s.entropy.length / g)).any fun k =>
          drawAt g bits s.entropy k != 0 && decide (drawAt g bits s.entropy k < m) then none
        else some .entropyExhausted) := by
  rw [← h.errorOf_eq, ← errorOf_map f]
  refine s.finishDraw_endsWith d _ _ fun c hc => ?_
  rw [errorOf_map, h.errorOf_eq] at hc
  split at hc <;> cases hc
  rfl

/-- How a sampling command ends: it completes, or it raises ENTROPY_EXHAUSTED and has popped words. -/
theorem DrawLoop.ends (h : DrawLoop g bits m loop) (s : State) (d : SlotNo) (f : Nat → List SlotWord) :
    ∃ t, s.finishDraw d ((loop s.entropy).1.map f) (loop s.entropy).2 = .next t ∧
      (s.Completed t ∨ s.Failed .entropyExhausted t ∧ ∃ k, t.entropy = s.entropy.drop k) := by
  by_cases hacc : ∃ k < s.entropy.length / g, Accepted m (drawAt g bits s.entropy k)
  · obtain ⟨v, rest, hloop⟩ := h.answers hacc
    rw [hloop]
    exact ⟨_, rfl, .inl (State.writeRun_complete_completed { s with entropy := rest } _ (f v)).of_entropy⟩
  · rw [h.all_rejected _ s.entropy rfl fun k hk hk' => hacc ⟨k, hk, hk'⟩]
    obtain ⟨t, ht, hfail, hrest⟩ := s.finishDraw_error d .entropyExhausted (s.entropy.drop (g * (s.entropy.length / g)))
    exact ⟨t, ht, .inr ⟨hfail, _, hrest⟩⟩

end draws

/-! ### Every command -/

/-- Every command with a legal word and readable operands ends with the error of its value check, or completes. The commands without
a value check are grouped by how many sources they read; the others by the form of their check. -/
theorem exec_endsWith_valueError {s : State} {i : Instr} (hwf : i.wellFormed = true) (h : s.Ready i) :
    s.EndsWith (exec i s) (s.valueError i) := by
  cases i with
  | nop => exact ⟨_, rfl, rfl, rfl, rfl, rfl, rfl, rfl, rfl, rfl, rfl, rfl⟩
  | ldc => exact execLdc_endsWith hwf h
  | clr | g1Ident | g2Ident => exact State.finishSlots_endsWith_value h rfl rfl rfl rfl (.done rfl)
  | mov => exact State.finishSlots_endsWith_value h rfl rfl rfl rfl (.raw (.done rfl))
  | fqNeg | fqSqr | fqToint | frNeg | frSqr | frToint | fq2Neg | fq2Sqr | fq2Conj | fq2Mulxi | fq2Frob
  | fq6Neg | fq6Sqr | fq6Mulnr | fq6Frob | fq12Neg | fq12Sqr | fq12Conj | fq12Frob
  | g1Dbl | g1Neg | g1Endo | g1Fromaff | g2Dbl | g2Neg | g2Psi | g2Fromaff =>
    exact State.finishSlots_endsWith_value h rfl rfl rfl rfl (.read (by simp) fun _ _ => .done rfl)
  | fqExp | frExp | fq12Exp | g1Smul | g2Smul =>
    exact State.finishSlots_endsWith_value h rfl rfl rfl rfl (.read (by simp) fun _ _ => .raw (.done rfl))
  | fqAdd | fqSub | fqMul | frAdd | frSub | frMul | fq2Add | fq2Sub | fq2Mul | fq6Add | fq6Sub | fq6Mul | fq6Spmul01
  | fq12Add | fq12Sub | fq12Mul | fq12Spmul014 | g1Add | g2Add | linedbl | miller =>
    exact State.finishSlots_endsWith_value h rfl rfl rfl rfl (.read (by simp) fun _ _ => .read (by simp) fun _ _ => .done rfl)
  | lineadd => exact State.finishSlots_endsWith_value h rfl rfl rfl rfl (.read (by simp) fun _ _ => .la fun _ _ _ _ => rfl)
  | fqEq | frEq | fq2Eq | fq6Eq | fq12Eq | g1Eq | g2Eq =>
    exact State.finishEq_endsWith_value h rfl rfl rfl rfl (.read (by simp) fun _ _ => .read (by simp) fun _ _ => .done rfl)
  | fqFromint | frFromint | latDecomp1 | latDecomp2 =>
    exact State.finishSlots_endsWith_value h rfl rfl rfl rfl (.raw (.done (errorOf_check _ _ _)))
  | g1Smulglv | g2Smulgls =>
    exact State.finishSlots_endsWith_value h rfl rfl rfl rfl (.read (by simp) fun _ _ => .raw (.done (errorOf_check _ _ _)))
  | fqInv =>
    exact State.finishSlots_endsWith_value h rfl rfl rfl rfl (.refuse (by simp) fun _ => readAs_value (s.readFq_as _))
  | frInv =>
    exact State.finishSlots_endsWith_value h rfl rfl rfl rfl (.refuse (by simp) fun _ => State.readFr_value)
  | fq2Inv =>
    exact State.finishSlots_endsWith_value h rfl rfl rfl rfl (.refuse (by simp) fun _ => readAs_value (s.readFq2_eq _))
  | fq6Inv =>
    exact State.finishSlots_endsWith_value h rfl rfl rfl rfl (.refuse (by simp) fun _ => readAs_value (s.readFq6_eq _))
  | fq12Inv | finexp =>
    exact State.finishSlots_endsWith_value h rfl rfl rfl rfl (.refuse (by simp) fun _ => readAs_value (s.readFq12_eq _))
  | g1Toaff =>
    refine State.finishSlots_endsWith_value h rfl rfl rfl rfl (.read (by simp) fun P hP => .done ?_)
    obtain rfl := readAs_value (s.readG1_eq _) hP
    exact errorOf_answer_or_check (fun hone hzero => absurd (hone.symm.trans hzero) (by decide)) _ _ _
  | g2Toaff =>
    refine State.finishSlots_endsWith_value h rfl rfl rfl rfl (.read (by simp) fun P hP => .done ?_)
    obtain rfl := State.readG2_value hP
    exact errorOf_answer_or_check (fun hone hzero => absurd (hone.symm.trans hzero) (by decide)) _ _ _
  | pair d a b =>
    have hvalue : s.valueError (.pair d a b) = errorOf (pairResult (s.g1At a.toNat) (s.g2At b.toNat)) :=
      (errorOf_pairResult _ _).symm
    rw [(exec_pair h).1, hvalue]
    exact s.finishSlots_endsWith d _
  | fqRand d =>
    rw [exec_fqRand rfl]
    exact drawLoop_fq.endsWith s d _
  | frRand d =>
    rw [exec_frRand rfl]
    exact drawLoop_fr.endsWith s d _

/-- A command with a value check has a legal word: LDC has none. -/
theorem wellFormed_of_valueError {s : State} {i : Instr} {c : ErrCode} (h : s.valueError i = some c) : i.wellFormed = true := by
  cases i with
  | ldc => cases h
  | _ => rfl

/-- Settles O26: the value check is the only error of a command whose operands are readable. -/
theorem valueChecksRaiseTheirError : Obligations.ValueChecksRaiseTheirError := by
  intro s i c hready hvalue hc
  have hends := exec_endsWith_valueError (wellFormed_of_valueError hvalue) hready
  rw [hvalue] at hends
  exact hends hc

/-- Settles O27: without an error of its value check the command completes. -/
theorem everyCommandCompletesUnlessACheckFails : Obligations.EveryCommandCompletesUnlessACheckFails := by
  intro s i hwf hready hvalue
  have hends := exec_endsWith_valueError hwf hready
  rwa [hvalue] at hends

/-! ### What an error leaves (60_exceptions.md R324, R326) -/

/-- A sampling command completes, or raises ENTROPY_EXHAUSTED and has popped words. -/
theorem exec_rand_ends {s t : State} {d : SlotNo} {i : Instr} (hi : i = .fqRand d ∨ i = .frRand d) (h : exec i s = .next t) :
    s.Completed t ∨ s.Failed .entropyExhausted t ∧ ∃ k, t.entropy = s.entropy.drop k := by
  obtain rfl | rfl := hi
  · obtain ⟨t', ht', hends⟩ := drawLoop_fq.ends s d fun v => fqWords (Fin.ofNat Config.q v)
    rw [exec_fqRand rfl] at h
    cases h.symm.trans ht'
    exact hends
  · obtain ⟨t', ht', hends⟩ := drawLoop_fr.ends s d fun v => frWords (Fin.ofNat Config.r v)
    rw [exec_frRand rfl] at h
    cases h.symm.trans ht'
    exact hends

/-- A command completes, or raises an error; with the error it leaves the FIFO, unless it is a sampling command that is out of words. -/
theorem exec_completed_or_failed {s t : State} {i : Instr} (h : exec i s = .next t) :
    s.Completed t ∨ ∃ c, s.Failed c t ∧
      (t.entropy = s.entropy ∨
        c = .entropyExhausted ∧ (∃ d, i = .fqRand d ∨ i = .frRand d) ∧ ∃ k, t.entropy = s.entropy.drop k) := by
  by_cases hrand : ∃ d, i = .fqRand d ∨ i = .frRand d
  · obtain ⟨d, hi⟩ := hrand
    exact (exec_rand_ends hi h).imp_right fun ⟨hfail, hpopped⟩ => ⟨_, hfail, .inr ⟨rfl, ⟨d, hi⟩, hpopped⟩⟩
  · obtain ⟨t', ht', hend⟩ := exec_ends i s
    cases h.symm.trans ht'
    have hentropy := hend.entropy fun d => not_or.mp (not_exists.mp hrand d)
    exact hend.ended.imp_right fun ⟨c, _, hfail⟩ => ⟨c, hfail, .inl hentropy⟩

/-- The same for a command word, whether it decodes or not. -/
theorem runCommand_completed_or_failed {w : Word} {s t : State} (h : runCommand w s = .next t) :
    s.Completed t ∨ ∃ c, s.Failed c t ∧
      (t.entropy = s.entropy ∨
        c = .entropyExhausted ∧ (∃ d, decode w = .ok (.fqRand d) ∨ decode w = .ok (.frRand d)) ∧
          ∃ k, t.entropy = s.entropy.drop k) := by
  unfold runCommand at h
  split at h
  next i hdec =>
    rw [hdec]
    simpa only [Except.ok.injEq] using exec_completed_or_failed h
  next =>
    obtain ⟨t', ht', hfail, hentropy⟩ := s.raise_fails .illegalCommand
    cases h.symm.trans ht'
    exact .inr ⟨_, hfail, .inl hentropy⟩

/-- Settles O29: a command that completed left ERR as it was, so that the other case remains. -/
theorem errorsWriteNothing : Obligations.ErrorsWriteNothing := by
  intro s t w h hinflight hs ht
  obtain hdone | ⟨c, hfail, hentropy⟩ := runCommand_completed_or_failed h
  · exact nomatch ht.symm.trans (hdone.err.trans hs)
  · refine ⟨?_, c, hfail, hentropy⟩
    rw [hfail.errinfo, hinflight, Option.getD_some]

end Sys2Proof.Machine

/-! SUPPORT. The soft reset as the host causes it, and the words that the spec prints for its examples. -/

namespace Sys2Proof

/-! ### Printed words (30_encoding.md R102) -/

/-- The words that decode to a command: its own word, if that is legal. -/
theorem decode_eq_ok_iff_encode (w : Word) (i : Instr) : decode w = .ok i ↔ encode i = w ∧ i.wellFormed = true := by
  constructor
  · exact decodedWordIsTheOneEncoding w i
  · rintro ⟨rfl, hwf⟩
    exact decodeOfEncodeIsTheCommand i hwf

/-- Settles O3: each printed word is the legal word of its command. -/
theorem specWordsDecode : Obligations.SpecWordsDecode := by
  unfold Obligations.SpecWordsDecode
  simp only [decode_eq_ok_iff_encode]
  decide

end Sys2Proof

namespace Sys2Proof.Machine

/-! ### The soft reset (70_reset_and_hazards.md R361) -/

/-- With SRST = 1 a CTRL write does not look at bits [1:0] (10_state.md R32). -/
theorem State.writeCtrl_of_srst (s : State) {v : Word} (hsrst : v.getLsbD 2 = true) : s.writeCtrl v = s.softReset := if_pos hsrst

/-- Settles O10: the write reaches CTRL, where SRST = 1 makes it the soft reset. -/
theorem softResetClearsAllButTheSlots : Obligations.SoftResetClearsAllButTheSlots := by
  intro s v hsrst
  constructor
  · rw [Access.held_write_iff]
    simp
  · rw [performAccess_register s (by simp), State.busWrite_ctrl, s.writeCtrl_of_srst hsrst]
    rfl

end Sys2Proof.Machine
